-- ==== Sys2Proof/Word.lean ====
section
/-! DEFINITION. The two word types of 00_scope.md R6: `u8` and `u16`. `+` and `-` on them are the
spec's `+8`, `-8`, `+16` and `-16` (arithmetic modulo 256 and modulo 65 536); `&&&`, `|||`, `^^^`, `~~~`
are `&`, `|`, `^`, `~`. The byte-order and extension helpers of R6 stand in Decode.lean. -/

namespace Sys2Proof

/-- `u8`, an unsigned 8-bit value; bit 7 is the most significant (R6). -/
abbrev Byte := BitVec 8

/-- `u16`, an unsigned 16-bit value (R6): addresses and the program counter. -/
abbrev Word := BitVec 16

end Sys2Proof
end

