-- ==== Sys2Proof/Syntax.lean ====
section
/-! DEFINITION. The instruction set as syntax: the 56 mnemonics, the ten addressing-mode tags, the fourteen
operand forms (30_encoding.md R84) and the one inductive `Instr` with one constructor for each of the
151 rows of spec/opcode_table.json (R90). A one-byte operand is `b` (the byte `b1` of R80); a two-byte
operand is the little-endian word `w = {b2, b1}`. -/

namespace Sys2Proof

/-- The 56 mnemonics of the Opcode Catalog (30_encoding.md R90). -/
inductive Mnemonic where
  | adc | and | asl | bcc | bcs | beq | bit | bmi
  | bne | bpl | brk | bvc | bvs | clc | cld | cli
  | clv | cmp | cpx | cpy | dec | dex | dey | eor
  | inc | inx | iny | jmp | jsr | lda | ldx | ldy
  | lsr | nop | ora | pha | php | pla | plp | rol
  | ror | rti | rts | sbc | sec | sed | sei | sta
  | stx | sty | tax | tay | tsx | txa | txs | tya
  deriving DecidableEq, Repr

/-- The source's closed set of addressing-mode tags (30_encoding.md R84). -/
inductive AddressMode where
  | immediate | zeroPage | zeroPageX | zeroPageY | absolute | absoluteX | absoluteY
  | indirectX | indirectY | noAddress
  deriving DecidableEq, Repr

/-- The operand forms of 30_encoding.md R84: a tag, or one of the shapes the handler decodes itself. -/
inductive Form where
  | implied | accumulator | immediate | zeroPage | zeroPageX | zeroPageY | indirectX | indirectY
  | relative | absolute | absoluteX | absoluteY | absoluteTarget | indirectJump
  deriving DecidableEq, Repr

/-- One constructor per opcode of 30_encoding.md R90, named by mnemonic and operand form. -/
inductive Instr where
  /-- 0x61 `ADC (b,X)`, form IndirectX (R160). -/
  | adcIndX (b : Byte)
  /-- 0x65 `ADC b`, form ZeroPage (R160). -/
  | adcZp (b : Byte)
  /-- 0x69 `ADC #b`, form Immediate (R160). -/
  | adcImm (b : Byte)
  /-- 0x6D `ADC w`, form Absolute (R160). -/
  | adcAbs (w : Word)
  /-- 0x71 `ADC (b),Y`, form IndirectY (R160). -/
  | adcIndY (b : Byte)
  /-- 0x75 `ADC b,X`, form ZeroPageX (R160). -/
  | adcZpX (b : Byte)
  /-- 0x79 `ADC w,Y`, form AbsoluteY (R160). -/
  | adcAbsY (w : Word)
  /-- 0x7D `ADC w,X`, form AbsoluteX (R160). -/
  | adcAbsX (w : Word)
  /-- 0x21 `AND (b,X)`, form IndirectX (R162). -/
  | andIndX (b : Byte)
  /-- 0x25 `AND b`, form ZeroPage (R162). -/
  | andZp (b : Byte)
  /-- 0x29 `AND #b`, form Immediate (R162). -/
  | andImm (b : Byte)
  /-- 0x2D `AND w`, form Absolute (R162). -/
  | andAbs (w : Word)
  /-- 0x31 `AND (b),Y`, form IndirectY (R162). -/
  | andIndY (b : Byte)
  /-- 0x35 `AND b,X`, form ZeroPageX (R162). -/
  | andZpX (b : Byte)
  /-- 0x39 `AND w,Y`, form AbsoluteY (R162). -/
  | andAbsY (w : Word)
  /-- 0x3D `AND w,X`, form AbsoluteX (R162). -/
  | andAbsX (w : Word)
  /-- 0x06 `ASL b`, form ZeroPage (R190). -/
  | aslZp (b : Byte)
  /-- 0x0A `ASL A`, form Accumulator (R190). -/
  | aslAcc
  /-- 0x0E `ASL w`, form Absolute (R190). -/
  | aslAbs (w : Word)
  /-- 0x16 `ASL b,X`, form ZeroPageX (R190). -/
  | aslZpX (b : Byte)
  /-- 0x1E `ASL w,X`, form AbsoluteX (R190). -/
  | aslAbsX (w : Word)
  /-- 0x90 `BCC b`, form Relative (R205). -/
  | bcc (b : Byte)
  /-- 0xB0 `BCS b`, form Relative (R206). -/
  | bcs (b : Byte)
  /-- 0xF0 `BEQ b`, form Relative (R207). -/
  | beq (b : Byte)
  /-- 0x24 `BIT b`, form ZeroPage (R168). -/
  | bitZp (b : Byte)
  /-- 0x2C `BIT w`, form Absolute (R168). -/
  | bitAbs (w : Word)
  /-- 0x30 `BMI b`, form Relative (R209). -/
  | bmi (b : Byte)
  /-- 0xD0 `BNE b`, form Relative (R208). -/
  | bne (b : Byte)
  /-- 0x10 `BPL b`, form Relative (R210). -/
  | bpl (b : Byte)
  /-- 0x00 `BRK`, form Implied (R232). -/
  | brk
  /-- 0x50 `BVC b`, form Relative (R211). -/
  | bvc (b : Byte)
  /-- 0x70 `BVS b`, form Relative (R212). -/
  | bvs (b : Byte)
  /-- 0x18 `CLC`, form Implied (R224). -/
  | clc
  /-- 0xD8 `CLD`, form Implied (R228). -/
  | cld
  /-- 0x58 `CLI`, form Implied (R226). -/
  | cli
  /-- 0xB8 `CLV`, form Implied (R230). -/
  | clv
  /-- 0xC1 `CMP (b,X)`, form IndirectX (R165). -/
  | cmpIndX (b : Byte)
  /-- 0xC5 `CMP b`, form ZeroPage (R165). -/
  | cmpZp (b : Byte)
  /-- 0xC9 `CMP #b`, form Immediate (R165). -/
  | cmpImm (b : Byte)
  /-- 0xCD `CMP w`, form Absolute (R165). -/
  | cmpAbs (w : Word)
  /-- 0xD1 `CMP (b),Y`, form IndirectY (R165). -/
  | cmpIndY (b : Byte)
  /-- 0xD5 `CMP b,X`, form ZeroPageX (R165). -/
  | cmpZpX (b : Byte)
  /-- 0xD9 `CMP w,Y`, form AbsoluteY (R165). -/
  | cmpAbsY (w : Word)
  /-- 0xDD `CMP w,X`, form AbsoluteX (R165). -/
  | cmpAbsX (w : Word)
  /-- 0xE0 `CPX #b`, form Immediate (R166). -/
  | cpxImm (b : Byte)
  /-- 0xE4 `CPX b`, form ZeroPage (R166). -/
  | cpxZp (b : Byte)
  /-- 0xEC `CPX w`, form Absolute (R166). -/
  | cpxAbs (w : Word)
  /-- 0xC0 `CPY #b`, form Immediate (R167). -/
  | cpyImm (b : Byte)
  /-- 0xC4 `CPY b`, form ZeroPage (R167). -/
  | cpyZp (b : Byte)
  /-- 0xCC `CPY w`, form Absolute (R167). -/
  | cpyAbs (w : Word)
  /-- 0xC6 `DEC b`, form ZeroPage (R170). -/
  | decZp (b : Byte)
  /-- 0xCE `DEC w`, form Absolute (R170). -/
  | decAbs (w : Word)
  /-- 0xD6 `DEC b,X`, form ZeroPageX (R170). -/
  | decZpX (b : Byte)
  /-- 0xDE `DEC w,X`, form AbsoluteX (R170). -/
  | decAbsX (w : Word)
  /-- 0xCA `DEX`, form Implied (R173). -/
  | dex
  /-- 0x88 `DEY`, form Implied (R174). -/
  | dey
  /-- 0x41 `EOR (b,X)`, form IndirectX (R164). -/
  | eorIndX (b : Byte)
  /-- 0x45 `EOR b`, form ZeroPage (R164). -/
  | eorZp (b : Byte)
  /-- 0x49 `EOR #b`, form Immediate (R164). -/
  | eorImm (b : Byte)
  /-- 0x4D `EOR w`, form Absolute (R164). -/
  | eorAbs (w : Word)
  /-- 0x51 `EOR (b),Y`, form IndirectY (R164). -/
  | eorIndY (b : Byte)
  /-- 0x55 `EOR b,X`, form ZeroPageX (R164). -/
  | eorZpX (b : Byte)
  /-- 0x59 `EOR w,Y`, form AbsoluteY (R164). -/
  | eorAbsY (w : Word)
  /-- 0x5D `EOR w,X`, form AbsoluteX (R164). -/
  | eorAbsX (w : Word)
  /-- 0xE6 `INC b`, form ZeroPage (R169). -/
  | incZp (b : Byte)
  /-- 0xEE `INC w`, form Absolute (R169). -/
  | incAbs (w : Word)
  /-- 0xF6 `INC b,X`, form ZeroPageX (R169). -/
  | incZpX (b : Byte)
  /-- 0xFE `INC w,X`, form AbsoluteX (R169). -/
  | incAbsX (w : Word)
  /-- 0xE8 `INX`, form Implied (R171). -/
  | inx
  /-- 0xC8 `INY`, form Implied (R172). -/
  | iny
  /-- 0x4C `JMP w`, form AbsoluteTarget (R200). -/
  | jmpAbs (w : Word)
  /-- 0x6C `JMP (w)`, form IndirectJump (R201). -/
  | jmpInd (w : Word)
  /-- 0x20 `JSR w`, form AbsoluteTarget (R202). -/
  | jsr (w : Word)
  /-- 0xA1 `LDA (b,X)`, form IndirectX (R140). -/
  | ldaIndX (b : Byte)
  /-- 0xA5 `LDA b`, form ZeroPage (R140). -/
  | ldaZp (b : Byte)
  /-- 0xA9 `LDA #b`, form Immediate (R140). -/
  | ldaImm (b : Byte)
  /-- 0xAD `LDA w`, form Absolute (R140). -/
  | ldaAbs (w : Word)
  /-- 0xB1 `LDA (b),Y`, form IndirectY (R140). -/
  | ldaIndY (b : Byte)
  /-- 0xB5 `LDA b,X`, form ZeroPageX (R140). -/
  | ldaZpX (b : Byte)
  /-- 0xB9 `LDA w,Y`, form AbsoluteY (R140). -/
  | ldaAbsY (w : Word)
  /-- 0xBD `LDA w,X`, form AbsoluteX (R140). -/
  | ldaAbsX (w : Word)
  /-- 0xA2 `LDX #b`, form Immediate (R141). -/
  | ldxImm (b : Byte)
  /-- 0xA6 `LDX b`, form ZeroPage (R141). -/
  | ldxZp (b : Byte)
  /-- 0xAE `LDX w`, form Absolute (R141). -/
  | ldxAbs (w : Word)
  /-- 0xB6 `LDX b,Y`, form ZeroPageY (R141). -/
  | ldxZpY (b : Byte)
  /-- 0xBE `LDX w,Y`, form AbsoluteY (R141). -/
  | ldxAbsY (w : Word)
  /-- 0xA0 `LDY #b`, form Immediate (R142). -/
  | ldyImm (b : Byte)
  /-- 0xA4 `LDY b`, form ZeroPage (R142). -/
  | ldyZp (b : Byte)
  /-- 0xAC `LDY w`, form Absolute (R142). -/
  | ldyAbs (w : Word)
  /-- 0xB4 `LDY b,X`, form ZeroPageX (R142). -/
  | ldyZpX (b : Byte)
  /-- 0xBC `LDY w,X`, form AbsoluteX (R142). -/
  | ldyAbsX (w : Word)
  /-- 0x46 `LSR b`, form ZeroPage (R191). -/
  | lsrZp (b : Byte)
  /-- 0x4A `LSR A`, form Accumulator (R191). -/
  | lsrAcc
  /-- 0x4E `LSR w`, form Absolute (R191). -/
  | lsrAbs (w : Word)
  /-- 0x56 `LSR b,X`, form ZeroPageX (R191). -/
  | lsrZpX (b : Byte)
  /-- 0x5E `LSR w,X`, form AbsoluteX (R191). -/
  | lsrAbsX (w : Word)
  /-- 0xEA `NOP`, form Implied (R231). -/
  | nop
  /-- 0x01 `ORA (b,X)`, form IndirectX (R163). -/
  | oraIndX (b : Byte)
  /-- 0x05 `ORA b`, form ZeroPage (R163). -/
  | oraZp (b : Byte)
  /-- 0x09 `ORA #b`, form Immediate (R163). -/
  | oraImm (b : Byte)
  /-- 0x0D `ORA w`, form Absolute (R163). -/
  | oraAbs (w : Word)
  /-- 0x11 `ORA (b),Y`, form IndirectY (R163). -/
  | oraIndY (b : Byte)
  /-- 0x15 `ORA b,X`, form ZeroPageX (R163). -/
  | oraZpX (b : Byte)
  /-- 0x19 `ORA w,Y`, form AbsoluteY (R163). -/
  | oraAbsY (w : Word)
  /-- 0x1D `ORA w,X`, form AbsoluteX (R163). -/
  | oraAbsX (w : Word)
  /-- 0x48 `PHA`, form Implied (R220). -/
  | pha
  /-- 0x08 `PHP`, form Implied (R221). -/
  | php
  /-- 0x68 `PLA`, form Implied (R222). -/
  | pla
  /-- 0x28 `PLP`, form Implied (R223). -/
  | plp
  /-- 0x26 `ROL b`, form ZeroPage (R192). -/
  | rolZp (b : Byte)
  /-- 0x2A `ROL A`, form Accumulator (R192). -/
  | rolAcc
  /-- 0x2E `ROL w`, form Absolute (R192). -/
  | rolAbs (w : Word)
  /-- 0x36 `ROL b,X`, form ZeroPageX (R192). -/
  | rolZpX (b : Byte)
  /-- 0x3E `ROL w,X`, form AbsoluteX (R192). -/
  | rolAbsX (w : Word)
  /-- 0x66 `ROR b`, form ZeroPage (R193). -/
  | rorZp (b : Byte)
  /-- 0x6A `ROR A`, form Accumulator (R193). -/
  | rorAcc
  /-- 0x6E `ROR w`, form Absolute (R193). -/
  | rorAbs (w : Word)
  /-- 0x76 `ROR b,X`, form ZeroPageX (R193). -/
  | rorZpX (b : Byte)
  /-- 0x7E `ROR w,X`, form AbsoluteX (R193). -/
  | rorAbsX (w : Word)
  /-- 0x40 `RTI`, form Implied (R233). -/
  | rti
  /-- 0x60 `RTS`, form Implied (R203). -/
  | rts
  /-- 0xE1 `SBC (b,X)`, form IndirectX (R161). -/
  | sbcIndX (b : Byte)
  /-- 0xE5 `SBC b`, form ZeroPage (R161). -/
  | sbcZp (b : Byte)
  /-- 0xE9 `SBC #b`, form Immediate (R161). -/
  | sbcImm (b : Byte)
  /-- 0xED `SBC w`, form Absolute (R161). -/
  | sbcAbs (w : Word)
  /-- 0xF1 `SBC (b),Y`, form IndirectY (R161). -/
  | sbcIndY (b : Byte)
  /-- 0xF5 `SBC b,X`, form ZeroPageX (R161). -/
  | sbcZpX (b : Byte)
  /-- 0xF9 `SBC w,Y`, form AbsoluteY (R161). -/
  | sbcAbsY (w : Word)
  /-- 0xFD `SBC w,X`, form AbsoluteX (R161). -/
  | sbcAbsX (w : Word)
  /-- 0x38 `SEC`, form Implied (R225). -/
  | sec
  /-- 0xF8 `SED`, form Implied (R229). -/
  | sed
  /-- 0x78 `SEI`, form Implied (R227). -/
  | sei
  /-- 0x81 `STA (b,X)`, form IndirectX (R143). -/
  | staIndX (b : Byte)
  /-- 0x85 `STA b`, form ZeroPage (R143). -/
  | staZp (b : Byte)
  /-- 0x8D `STA w`, form Absolute (R143). -/
  | staAbs (w : Word)
  /-- 0x91 `STA (b),Y`, form IndirectY (R143). -/
  | staIndY (b : Byte)
  /-- 0x95 `STA b,X`, form ZeroPageX (R143). -/
  | staZpX (b : Byte)
  /-- 0x99 `STA w,Y`, form AbsoluteY (R143). -/
  | staAbsY (w : Word)
  /-- 0x9D `STA w,X`, form AbsoluteX (R143). -/
  | staAbsX (w : Word)
  /-- 0x86 `STX b`, form ZeroPage (R144). -/
  | stxZp (b : Byte)
  /-- 0x8E `STX w`, form Absolute (R144). -/
  | stxAbs (w : Word)
  /-- 0x96 `STX b,Y`, form ZeroPageY (R144). -/
  | stxZpY (b : Byte)
  /-- 0x84 `STY b`, form ZeroPage (R145). -/
  | styZp (b : Byte)
  /-- 0x8C `STY w`, form Absolute (R145). -/
  | styAbs (w : Word)
  /-- 0x94 `STY b,X`, form ZeroPageX (R145). -/
  | styZpX (b : Byte)
  /-- 0xAA `TAX`, form Implied (R146). -/
  | tax
  /-- 0xA8 `TAY`, form Implied (R147). -/
  | tay
  /-- 0xBA `TSX`, form Implied (R150). -/
  | tsx
  /-- 0x8A `TXA`, form Implied (R148). -/
  | txa
  /-- 0x9A `TXS`, form Implied (R151). -/
  | txs
  /-- 0x98 `TYA`, form Implied (R149). -/
  | tya
  deriving DecidableEq, Repr

/-- The mnemonic of an instruction: its row of 30_encoding.md R90. -/
def Instr.mnemonic : Instr → Mnemonic
  | .adcIndX _ => .adc
  | .adcZp _ => .adc
  | .adcImm _ => .adc
  | .adcAbs _ => .adc
  | .adcIndY _ => .adc
  | .adcZpX _ => .adc
  | .adcAbsY _ => .adc
  | .adcAbsX _ => .adc
  | .andIndX _ => .and
  | .andZp _ => .and
  | .andImm _ => .and
  | .andAbs _ => .and
  | .andIndY _ => .and
  | .andZpX _ => .and
  | .andAbsY _ => .and
  | .andAbsX _ => .and
  | .aslZp _ => .asl
  | .aslAcc => .asl
  | .aslAbs _ => .asl
  | .aslZpX _ => .asl
  | .aslAbsX _ => .asl
  | .bcc _ => .bcc
  | .bcs _ => .bcs
  | .beq _ => .beq
  | .bitZp _ => .bit
  | .bitAbs _ => .bit
  | .bmi _ => .bmi
  | .bne _ => .bne
  | .bpl _ => .bpl
  | .brk => .brk
  | .bvc _ => .bvc
  | .bvs _ => .bvs
  | .clc => .clc
  | .cld => .cld
  | .cli => .cli
  | .clv => .clv
  | .cmpIndX _ => .cmp
  | .cmpZp _ => .cmp
  | .cmpImm _ => .cmp
  | .cmpAbs _ => .cmp
  | .cmpIndY _ => .cmp
  | .cmpZpX _ => .cmp
  | .cmpAbsY _ => .cmp
  | .cmpAbsX _ => .cmp
  | .cpxImm _ => .cpx
  | .cpxZp _ => .cpx
  | .cpxAbs _ => .cpx
  | .cpyImm _ => .cpy
  | .cpyZp _ => .cpy
  | .cpyAbs _ => .cpy
  | .decZp _ => .dec
  | .decAbs _ => .dec
  | .decZpX _ => .dec
  | .decAbsX _ => .dec
  | .dex => .dex
  | .dey => .dey
  | .eorIndX _ => .eor
  | .eorZp _ => .eor
  | .eorImm _ => .eor
  | .eorAbs _ => .eor
  | .eorIndY _ => .eor
  | .eorZpX _ => .eor
  | .eorAbsY _ => .eor
  | .eorAbsX _ => .eor
  | .incZp _ => .inc
  | .incAbs _ => .inc
  | .incZpX _ => .inc
  | .incAbsX _ => .inc
  | .inx => .inx
  | .iny => .iny
  | .jmpAbs _ => .jmp
  | .jmpInd _ => .jmp
  | .jsr _ => .jsr
  | .ldaIndX _ => .lda
  | .ldaZp _ => .lda
  | .ldaImm _ => .lda
  | .ldaAbs _ => .lda
  | .ldaIndY _ => .lda
  | .ldaZpX _ => .lda
  | .ldaAbsY _ => .lda
  | .ldaAbsX _ => .lda
  | .ldxImm _ => .ldx
  | .ldxZp _ => .ldx
  | .ldxAbs _ => .ldx
  | .ldxZpY _ => .ldx
  | .ldxAbsY _ => .ldx
  | .ldyImm _ => .ldy
  | .ldyZp _ => .ldy
  | .ldyAbs _ => .ldy
  | .ldyZpX _ => .ldy
  | .ldyAbsX _ => .ldy
  | .lsrZp _ => .lsr
  | .lsrAcc => .lsr
  | .lsrAbs _ => .lsr
  | .lsrZpX _ => .lsr
  | .lsrAbsX _ => .lsr
  | .nop => .nop
  | .oraIndX _ => .ora
  | .oraZp _ => .ora
  | .oraImm _ => .ora
  | .oraAbs _ => .ora
  | .oraIndY _ => .ora
  | .oraZpX _ => .ora
  | .oraAbsY _ => .ora
  | .oraAbsX _ => .ora
  | .pha => .pha
  | .php => .php
  | .pla => .pla
  | .plp => .plp
  | .rolZp _ => .rol
  | .rolAcc => .rol
  | .rolAbs _ => .rol
  | .rolZpX _ => .rol
  | .rolAbsX _ => .rol
  | .rorZp _ => .ror
  | .rorAcc => .ror
  | .rorAbs _ => .ror
  | .rorZpX _ => .ror
  | .rorAbsX _ => .ror
  | .rti => .rti
  | .rts => .rts
  | .sbcIndX _ => .sbc
  | .sbcZp _ => .sbc
  | .sbcImm _ => .sbc
  | .sbcAbs _ => .sbc
  | .sbcIndY _ => .sbc
  | .sbcZpX _ => .sbc
  | .sbcAbsY _ => .sbc
  | .sbcAbsX _ => .sbc
  | .sec => .sec
  | .sed => .sed
  | .sei => .sei
  | .staIndX _ => .sta
  | .staZp _ => .sta
  | .staAbs _ => .sta
  | .staIndY _ => .sta
  | .staZpX _ => .sta
  | .staAbsY _ => .sta
  | .staAbsX _ => .sta
  | .stxZp _ => .stx
  | .stxAbs _ => .stx
  | .stxZpY _ => .stx
  | .styZp _ => .sty
  | .styAbs _ => .sty
  | .styZpX _ => .sty
  | .tax => .tax
  | .tay => .tay
  | .tsx => .tsx
  | .txa => .txa
  | .txs => .txs
  | .tya => .tya

end Sys2Proof
end

