-- ==== Sys2Proof/Config.lean ====
section
/-! DEFINITION. What is fixed before a run: the fixed parameters of 00_scope.md R4 and the three named
parameters of R5, which the model takes as arguments (`Config`) and runs at the spec's defaults
(`Config.default`). None of it is state (10_state.md R31). -/

namespace Sys2Proof

/-- `STACK_BASE` (00_scope.md R4): the stack page's first address. -/
def stackBase : Word := 0x0100

/-- `LOAD_BASE` (00_scope.md R4): where `load` places the program image. -/
def loadBase : Word := 0x8000

/-- `RESET_VECTOR` (00_scope.md R4): the address of the reset vector's low byte. -/
def resetVector : Word := 0xFFFC

/-- The named parameters of 00_scope.md R5. -/
structure Config where
  /-- `SP_RESET`: the sentinel value of SP after `new` and `reset`. -/
  spReset : Byte
  /-- `STATUS_RESET`: the value of P after `reset`. -/
  statusReset : Byte
  /-- `IMPLEMENTED_SET`: the mnemonics whose handler exists. -/
  implementedSet : List Mnemonic
  deriving DecidableEq, Repr

/-- All 56 mnemonics (30_encoding.md R90). -/
def allMnemonics : List Mnemonic :=
  [.adc, .and, .asl, .bcc, .bcs, .beq, .bit, .bmi,
   .bne, .bpl, .brk, .bvc, .bvs, .clc, .cld, .cli,
   .clv, .cmp, .cpx, .cpy, .dec, .dex, .dey, .eor,
   .inc, .inx, .iny, .jmp, .jsr, .lda, .ldx, .ldy,
   .lsr, .nop, .ora, .pha, .php, .pla, .plp, .rol,
   .ror, .rti, .rts, .sbc, .sec, .sed, .sei, .sta,
   .stx, .sty, .tax, .tay, .tsx, .txa, .txs, .tya]

/-- The spec's defaults (R5). DESIGN CHOICE, unsafe: log 1 (0xFD), log 2 (0x24), log 3 (all 56 mnemonics);
the source gives none of the three values. -/
def Config.default : Config :=
  { spReset := 0xFD, statusReset := 0x24, implementedSet := allMnemonics }

/-- The source's own "minimum reproducible set" {LDA, TAX, INX, ADC, BRK} (R5), for a claim that is to rest
on what the source itself states. -/
def Config.sourceStated : Config :=
  { Config.default with implementedSet := [.lda, .tax, .inx, .adc, .brk] }

/-- Whether a handler exists for the mnemonic (R5, 40_engine_and_resolver.md R111). -/
def Config.implements (cfg : Config) (m : Mnemonic) : Bool := cfg.implementedSet.contains m

end Sys2Proof
end

