-- ==== Sys2Proof/WellFormed.lean ====
section
/-! DEFINITION. The three checks the spec makes on what is handed to the machine. Every value of every operand
byte is legal (30_encoding.md R92), so an instruction term has no ill-formed operand: what can be wrong
with an instruction is that its mnemonic has no handler (R111). -/

namespace Sys2Proof

/-- An instruction is well-formed for a configuration when its mnemonic is in `IMPLEMENTED_SET`
(00_scope.md R5, 40_engine_and_resolver.md R111). -/
def Instr.wellFormed (cfg : Config) (i : Instr) : Bool := cfg.implements i.mnemonic

/-- The catalog invariant of 30_encoding.md R83: no opcode byte is registered twice. -/
def codesWellFormed : List Byte → Bool
  | [] => true
  | c :: rest => !rest.contains c && codesWellFormed rest

/-- The size check of `load` (70_reset_and_hazards.md R282): `n ≤ 0x8000`. -/
def imageFits (program : List Byte) : Bool := decide (program.length ≤ 0x8000)

end Sys2Proof
end

