-- ==== Sys2Proof/Decode.lean ====
section
/-! DEFINITION. The Opcode Catalog (30_encoding.md R90), the decoder, which looks the whole opcode byte up in it
(R80, R82), and after it the encoder, written out opcode by opcode from the per-mnemonic table of R90. Also
the byte-order and extension helpers of 00_scope.md R6. -/

namespace Sys2Proof

/-- `hi(w) = w[15:8]` (R6). -/
def hiByte (w : Word) : Byte := w.extractLsb' 8 8

/-- `lo(w) = w[7:0]` (R6). -/
def loByte (w : Word) : Byte := w.extractLsb' 0 8

/-- `{h, l}`, the word `h * 256 + l` (R6). -/
def wordOf (h l : Byte) : Word := h ++ l

/-- `zext_16(b)` (R6). -/
def zext16 (b : Byte) : Word := b.setWidth 16

/-- `sext_16(b)` (R6): `b` if `b < 128`, else `b + 0xFF00`. -/
def sext16 (b : Byte) : Word := b.signExtend 16

/-- The catalog tag of an operand form (30_encoding.md R84). -/
def Form.tag : Form → AddressMode
  | .immediate => .immediate
  | .zeroPage => .zeroPage
  | .zeroPageX => .zeroPageX
  | .zeroPageY => .zeroPageY
  | .absolute => .absolute
  | .absoluteX => .absoluteX
  | .absoluteY => .absoluteY
  | .indirectX => .indirectX
  | .indirectY => .indirectY
  | .implied | .accumulator | .relative | .absoluteTarget | .indirectJump => .noAddress

/-- The three instruction formats F1, F2, F3 of 30_encoding.md R80, with the instruction they make of
their operand bytes. -/
inductive Shape where
  | f1 (i : Instr)
  | f2 (mk : Byte → Instr)
  | f3 (mk : Word → Instr)

/-- The instruction of a format, given the bytes that follow the opcode; F1 reads neither, F2 only `b1`. -/
def Shape.build : Shape → (b1 b2 : Byte) → Instr
  | .f1 i, _, _ => i
  | .f2 mk, b1, _ => mk b1
  | .f3 mk, b1, b2 => mk (wordOf b2 b1)

/-- A catalog descriptor (30_encoding.md R81). `length` is the total length in bytes, opcode included
(90_conflicts.md C1). `baseCycles` and `pageCross` are metadata that no rule reads (R290; log 23). -/
structure Descriptor where
  code : Byte
  mnemonic : Mnemonic
  form : Form
  length : Nat
  baseCycles : Nat
  pageCross : Bool
  deriving DecidableEq, Repr

/-- The descriptor's `addressing_mode` (R81, R84). -/
def Descriptor.tag (d : Descriptor) : AddressMode := d.form.tag

/-- A catalog row: the descriptor and the instruction its format makes. -/
structure Row where
  desc : Descriptor
  shape : Shape

/-- One row of the table of R90 sorted by opcode. -/
def row (code : Byte) (m : Mnemonic) (f : Form) (len cycles : Nat) (pageCross : Bool) (shape : Shape) :
    Row :=
  { desc := { code := code, mnemonic := m, form := f, length := len, baseCycles := cycles,
              pageCross := pageCross },
    shape := shape }

/-- The rows 0x00 to 0x0F of 30_encoding.md R90. -/
def catalog0 : List Row :=
  [row 0x00 .brk .implied 1 7 false (.f1 .brk),
   row 0x01 .ora .indirectX 2 6 false (.f2 .oraIndX),
   row 0x05 .ora .zeroPage 2 3 false (.f2 .oraZp),
   row 0x06 .asl .zeroPage 2 5 false (.f2 .aslZp),
   row 0x08 .php .implied 1 3 false (.f1 .php),
   row 0x09 .ora .immediate 2 2 false (.f2 .oraImm),
   row 0x0A .asl .accumulator 1 2 false (.f1 .aslAcc),
   row 0x0D .ora .absolute 3 4 false (.f3 .oraAbs),
   row 0x0E .asl .absolute 3 6 false (.f3 .aslAbs)]

/-- The rows 0x10 to 0x1F of 30_encoding.md R90. -/
def catalog1 : List Row :=
  [row 0x10 .bpl .relative 2 2 false (.f2 .bpl),
   row 0x11 .ora .indirectY 2 5 true (.f2 .oraIndY),
   row 0x15 .ora .zeroPageX 2 4 false (.f2 .oraZpX),
   row 0x16 .asl .zeroPageX 2 6 false (.f2 .aslZpX),
   row 0x18 .clc .implied 1 2 false (.f1 .clc),
   row 0x19 .ora .absoluteY 3 4 true (.f3 .oraAbsY),
   row 0x1D .ora .absoluteX 3 4 true (.f3 .oraAbsX),
   row 0x1E .asl .absoluteX 3 7 false (.f3 .aslAbsX)]

/-- The rows 0x20 to 0x2F of 30_encoding.md R90. -/
def catalog2 : List Row :=
  [row 0x20 .jsr .absoluteTarget 3 6 false (.f3 .jsr),
   row 0x21 .and .indirectX 2 6 false (.f2 .andIndX),
   row 0x24 .bit .zeroPage 2 3 false (.f2 .bitZp),
   row 0x25 .and .zeroPage 2 3 false (.f2 .andZp),
   row 0x26 .rol .zeroPage 2 5 false (.f2 .rolZp),
   row 0x28 .plp .implied 1 4 false (.f1 .plp),
   row 0x29 .and .immediate 2 2 false (.f2 .andImm),
   row 0x2A .rol .accumulator 1 2 false (.f1 .rolAcc),
   row 0x2C .bit .absolute 3 4 false (.f3 .bitAbs),
   row 0x2D .and .absolute 3 4 false (.f3 .andAbs),
   row 0x2E .rol .absolute 3 6 false (.f3 .rolAbs)]

/-- The rows 0x30 to 0x3F of 30_encoding.md R90. -/
def catalog3 : List Row :=
  [row 0x30 .bmi .relative 2 2 false (.f2 .bmi),
   row 0x31 .and .indirectY 2 5 true (.f2 .andIndY),
   row 0x35 .and .zeroPageX 2 4 false (.f2 .andZpX),
   row 0x36 .rol .zeroPageX 2 6 false (.f2 .rolZpX),
   row 0x38 .sec .implied 1 2 false (.f1 .sec),
   row 0x39 .and .absoluteY 3 4 true (.f3 .andAbsY),
   row 0x3D .and .absoluteX 3 4 true (.f3 .andAbsX),
   row 0x3E .rol .absoluteX 3 7 false (.f3 .rolAbsX)]

/-- The rows 0x40 to 0x4F of 30_encoding.md R90. -/
def catalog4 : List Row :=
  [row 0x40 .rti .implied 1 6 false (.f1 .rti),
   row 0x41 .eor .indirectX 2 6 false (.f2 .eorIndX),
   row 0x45 .eor .zeroPage 2 3 false (.f2 .eorZp),
   row 0x46 .lsr .zeroPage 2 5 false (.f2 .lsrZp),
   row 0x48 .pha .implied 1 3 false (.f1 .pha),
   row 0x49 .eor .immediate 2 2 false (.f2 .eorImm),
   row 0x4A .lsr .accumulator 1 2 false (.f1 .lsrAcc),
   row 0x4C .jmp .absoluteTarget 3 3 false (.f3 .jmpAbs),
   row 0x4D .eor .absolute 3 4 false (.f3 .eorAbs),
   row 0x4E .lsr .absolute 3 6 false (.f3 .lsrAbs)]

/-- The rows 0x50 to 0x5F of 30_encoding.md R90. -/
def catalog5 : List Row :=
  [row 0x50 .bvc .relative 2 2 false (.f2 .bvc),
   row 0x51 .eor .indirectY 2 5 true (.f2 .eorIndY),
   row 0x55 .eor .zeroPageX 2 4 false (.f2 .eorZpX),
   row 0x56 .lsr .zeroPageX 2 6 false (.f2 .lsrZpX),
   row 0x58 .cli .implied 1 2 false (.f1 .cli),
   row 0x59 .eor .absoluteY 3 4 true (.f3 .eorAbsY),
   row 0x5D .eor .absoluteX 3 4 true (.f3 .eorAbsX),
   row 0x5E .lsr .absoluteX 3 7 false (.f3 .lsrAbsX)]

/-- The rows 0x60 to 0x6F of 30_encoding.md R90. -/
def catalog6 : List Row :=
  [row 0x60 .rts .implied 1 6 false (.f1 .rts),
   row 0x61 .adc .indirectX 2 6 false (.f2 .adcIndX),
   row 0x65 .adc .zeroPage 2 3 false (.f2 .adcZp),
   row 0x66 .ror .zeroPage 2 5 false (.f2 .rorZp),
   row 0x68 .pla .implied 1 4 false (.f1 .pla),
   row 0x69 .adc .immediate 2 2 false (.f2 .adcImm),
   row 0x6A .ror .accumulator 1 2 false (.f1 .rorAcc),
   row 0x6C .jmp .indirectJump 3 5 false (.f3 .jmpInd),
   row 0x6D .adc .absolute 3 4 false (.f3 .adcAbs),
   row 0x6E .ror .absolute 3 6 false (.f3 .rorAbs)]

/-- The rows 0x70 to 0x7F of 30_encoding.md R90. -/
def catalog7 : List Row :=
  [row 0x70 .bvs .relative 2 2 false (.f2 .bvs),
   row 0x71 .adc .indirectY 2 5 true (.f2 .adcIndY),
   row 0x75 .adc .zeroPageX 2 4 false (.f2 .adcZpX),
   row 0x76 .ror .zeroPageX 2 6 false (.f2 .rorZpX),
   row 0x78 .sei .implied 1 2 false (.f1 .sei),
   row 0x79 .adc .absoluteY 3 4 true (.f3 .adcAbsY),
   row 0x7D .adc .absoluteX 3 4 true (.f3 .adcAbsX),
   row 0x7E .ror .absoluteX 3 7 false (.f3 .rorAbsX)]

/-- The rows 0x80 to 0x8F of 30_encoding.md R90. -/
def catalog8 : List Row :=
  [row 0x81 .sta .indirectX 2 6 false (.f2 .staIndX),
   row 0x84 .sty .zeroPage 2 3 false (.f2 .styZp),
   row 0x85 .sta .zeroPage 2 3 false (.f2 .staZp),
   row 0x86 .stx .zeroPage 2 3 false (.f2 .stxZp),
   row 0x88 .dey .implied 1 2 false (.f1 .dey),
   row 0x8A .txa .implied 1 2 false (.f1 .txa),
   row 0x8C .sty .absolute 3 4 false (.f3 .styAbs),
   row 0x8D .sta .absolute 3 4 false (.f3 .staAbs),
   row 0x8E .stx .absolute 3 4 false (.f3 .stxAbs)]

/-- The rows 0x90 to 0x9F of 30_encoding.md R90. -/
def catalog9 : List Row :=
  [row 0x90 .bcc .relative 2 2 false (.f2 .bcc),
   row 0x91 .sta .indirectY 2 6 false (.f2 .staIndY),
   row 0x94 .sty .zeroPageX 2 4 false (.f2 .styZpX),
   row 0x95 .sta .zeroPageX 2 4 false (.f2 .staZpX),
   row 0x96 .stx .zeroPageY 2 4 false (.f2 .stxZpY),
   row 0x98 .tya .implied 1 2 false (.f1 .tya),
   row 0x99 .sta .absoluteY 3 5 false (.f3 .staAbsY),
   row 0x9A .txs .implied 1 2 false (.f1 .txs),
   row 0x9D .sta .absoluteX 3 5 false (.f3 .staAbsX)]

/-- The rows 0xA0 to 0xAF of 30_encoding.md R90. -/
def catalogA : List Row :=
  [row 0xA0 .ldy .immediate 2 2 false (.f2 .ldyImm),
   row 0xA1 .lda .indirectX 2 6 false (.f2 .ldaIndX),
   row 0xA2 .ldx .immediate 2 2 false (.f2 .ldxImm),
   row 0xA4 .ldy .zeroPage 2 3 false (.f2 .ldyZp),
   row 0xA5 .lda .zeroPage 2 3 false (.f2 .ldaZp),
   row 0xA6 .ldx .zeroPage 2 3 false (.f2 .ldxZp),
   row 0xA8 .tay .implied 1 2 false (.f1 .tay),
   row 0xA9 .lda .immediate 2 2 false (.f2 .ldaImm),
   row 0xAA .tax .implied 1 2 false (.f1 .tax),
   row 0xAC .ldy .absolute 3 4 false (.f3 .ldyAbs),
   row 0xAD .lda .absolute 3 4 false (.f3 .ldaAbs),
   row 0xAE .ldx .absolute 3 4 false (.f3 .ldxAbs)]

/-- The rows 0xB0 to 0xBF of 30_encoding.md R90. -/
def catalogB : List Row :=
  [row 0xB0 .bcs .relative 2 2 false (.f2 .bcs),
   row 0xB1 .lda .indirectY 2 5 true (.f2 .ldaIndY),
   row 0xB4 .ldy .zeroPageX 2 4 false (.f2 .ldyZpX),
   row 0xB5 .lda .zeroPageX 2 4 false (.f2 .ldaZpX),
   row 0xB6 .ldx .zeroPageY 2 4 false (.f2 .ldxZpY),
   row 0xB8 .clv .implied 1 2 false (.f1 .clv),
   row 0xB9 .lda .absoluteY 3 4 true (.f3 .ldaAbsY),
   row 0xBA .tsx .implied 1 2 false (.f1 .tsx),
   row 0xBC .ldy .absoluteX 3 4 true (.f3 .ldyAbsX),
   row 0xBD .lda .absoluteX 3 4 true (.f3 .ldaAbsX),
   row 0xBE .ldx .absoluteY 3 4 true (.f3 .ldxAbsY)]

/-- The rows 0xC0 to 0xCF of 30_encoding.md R90. -/
def catalogC : List Row :=
  [row 0xC0 .cpy .immediate 2 2 false (.f2 .cpyImm),
   row 0xC1 .cmp .indirectX 2 6 false (.f2 .cmpIndX),
   row 0xC4 .cpy .zeroPage 2 3 false (.f2 .cpyZp),
   row 0xC5 .cmp .zeroPage 2 3 false (.f2 .cmpZp),
   row 0xC6 .dec .zeroPage 2 5 false (.f2 .decZp),
   row 0xC8 .iny .implied 1 2 false (.f1 .iny),
   row 0xC9 .cmp .immediate 2 2 false (.f2 .cmpImm),
   row 0xCA .dex .implied 1 2 false (.f1 .dex),
   row 0xCC .cpy .absolute 3 4 false (.f3 .cpyAbs),
   row 0xCD .cmp .absolute 3 4 false (.f3 .cmpAbs),
   row 0xCE .dec .absolute 3 6 false (.f3 .decAbs)]

/-- The rows 0xD0 to 0xDF of 30_encoding.md R90. -/
def catalogD : List Row :=
  [row 0xD0 .bne .relative 2 2 false (.f2 .bne),
   row 0xD1 .cmp .indirectY 2 5 true (.f2 .cmpIndY),
   row 0xD5 .cmp .zeroPageX 2 4 false (.f2 .cmpZpX),
   row 0xD6 .dec .zeroPageX 2 6 false (.f2 .decZpX),
   row 0xD8 .cld .implied 1 2 false (.f1 .cld),
   row 0xD9 .cmp .absoluteY 3 4 true (.f3 .cmpAbsY),
   row 0xDD .cmp .absoluteX 3 4 true (.f3 .cmpAbsX),
   row 0xDE .dec .absoluteX 3 7 false (.f3 .decAbsX)]

/-- The rows 0xE0 to 0xEF of 30_encoding.md R90. -/
def catalogE : List Row :=
  [row 0xE0 .cpx .immediate 2 2 false (.f2 .cpxImm),
   row 0xE1 .sbc .indirectX 2 6 false (.f2 .sbcIndX),
   row 0xE4 .cpx .zeroPage 2 3 false (.f2 .cpxZp),
   row 0xE5 .sbc .zeroPage 2 3 false (.f2 .sbcZp),
   row 0xE6 .inc .zeroPage 2 5 false (.f2 .incZp),
   row 0xE8 .inx .implied 1 2 false (.f1 .inx),
   row 0xE9 .sbc .immediate 2 2 false (.f2 .sbcImm),
   row 0xEA .nop .implied 1 2 false (.f1 .nop),
   row 0xEC .cpx .absolute 3 4 false (.f3 .cpxAbs),
   row 0xED .sbc .absolute 3 4 false (.f3 .sbcAbs),
   row 0xEE .inc .absolute 3 6 false (.f3 .incAbs)]

/-- The rows 0xF0 to 0xFF of 30_encoding.md R90. -/
def catalogF : List Row :=
  [row 0xF0 .beq .relative 2 2 false (.f2 .beq),
   row 0xF1 .sbc .indirectY 2 5 true (.f2 .sbcIndY),
   row 0xF5 .sbc .zeroPageX 2 4 false (.f2 .sbcZpX),
   row 0xF6 .inc .zeroPageX 2 6 false (.f2 .incZpX),
   row 0xF8 .sed .implied 1 2 false (.f1 .sed),
   row 0xF9 .sbc .absoluteY 3 4 true (.f3 .sbcAbsY),
   row 0xFD .sbc .absoluteX 3 4 true (.f3 .sbcAbsX),
   row 0xFE .inc .absoluteX 3 7 false (.f3 .incAbsX)]

/-- The Opcode Catalog: 151 rows (30_encoding.md R90). The bytes the source does not state are the rebuild of
R85 (log 12). -/
def catalog : List Row :=
  catalog0 ++ catalog1 ++ catalog2 ++ catalog3 ++ catalog4 ++ catalog5 ++ catalog6 ++ catalog7 ++
  catalog8 ++ catalog9 ++ catalogA ++ catalogB ++ catalogC ++ catalogD ++ catalogE ++ catalogF

/-- `Catalog.get(code)` (30_encoding.md R83): the row of the byte, none for the 105 bytes of R91. -/
def catalogGet (op : Byte) : Option Row := catalog.find? fun r => r.desc.code == op

/-- Why a byte string is not an instruction. -/
inductive DecodeError where
  /-- The first byte has no catalog entry (R91). -/
  | unknownOpcode (byte : Byte)
  /-- The string ends inside an instruction (DESIGN CHOICE, log 28). The machine's own fetch never meets this: memory
  has no end. -/
  | truncated
  deriving DecidableEq, Repr

/-- What the decoder answers. -/
inductive Decoded where
  /-- The first instruction and the bytes after it. -/
  | instr (i : Instr) (rest : List Byte)
  /-- There is none, and why. -/
  | bad (e : DecodeError)
  deriving DecidableEq, Repr

/-- Reads the operand bytes a format needs off the front of a byte string (30_encoding.md R80). -/
def Shape.take : Shape → List Byte → Decoded
  | .f1 i, rest => .instr i rest
  | .f2 mk, b1 :: rest => .instr (mk b1) rest
  | .f3 mk, b1 :: b2 :: rest => .instr (mk (wordOf b2 b1)) rest
  | .f2 _, [] => .bad .truncated
  | .f3 _, [] => .bad .truncated
  | .f3 _, [_] => .bad .truncated

/-- The decoder (30_encoding.md R82): total on any bytes, it answers the first instruction and the bytes
after it, or the reason there is none. -/
def decode : List Byte → Decoded
  | [] => .bad .truncated
  | op :: rest =>
    match catalogGet op with
    | none => .bad (.unknownOpcode op)
    | some r => r.shape.take rest

/-- The bytes of an instruction, opcode first, then `b1` (low), then `b2` (high) (30_encoding.md R80, R90). -/
def encode : Instr → List Byte
  | .adcIndX b => [0x61, b]
  | .adcZp b => [0x65, b]
  | .adcImm b => [0x69, b]
  | .adcAbs w => [0x6D, loByte w, hiByte w]
  | .adcIndY b => [0x71, b]
  | .adcZpX b => [0x75, b]
  | .adcAbsY w => [0x79, loByte w, hiByte w]
  | .adcAbsX w => [0x7D, loByte w, hiByte w]
  | .andIndX b => [0x21, b]
  | .andZp b => [0x25, b]
  | .andImm b => [0x29, b]
  | .andAbs w => [0x2D, loByte w, hiByte w]
  | .andIndY b => [0x31, b]
  | .andZpX b => [0x35, b]
  | .andAbsY w => [0x39, loByte w, hiByte w]
  | .andAbsX w => [0x3D, loByte w, hiByte w]
  | .aslZp b => [0x06, b]
  | .aslAcc => [0x0A]
  | .aslAbs w => [0x0E, loByte w, hiByte w]
  | .aslZpX b => [0x16, b]
  | .aslAbsX w => [0x1E, loByte w, hiByte w]
  | .bcc b => [0x90, b]
  | .bcs b => [0xB0, b]
  | .beq b => [0xF0, b]
  | .bitZp b => [0x24, b]
  | .bitAbs w => [0x2C, loByte w, hiByte w]
  | .bmi b => [0x30, b]
  | .bne b => [0xD0, b]
  | .bpl b => [0x10, b]
  | .brk => [0x00]
  | .bvc b => [0x50, b]
  | .bvs b => [0x70, b]
  | .clc => [0x18]
  | .cld => [0xD8]
  | .cli => [0x58]
  | .clv => [0xB8]
  | .cmpIndX b => [0xC1, b]
  | .cmpZp b => [0xC5, b]
  | .cmpImm b => [0xC9, b]
  | .cmpAbs w => [0xCD, loByte w, hiByte w]
  | .cmpIndY b => [0xD1, b]
  | .cmpZpX b => [0xD5, b]
  | .cmpAbsY w => [0xD9, loByte w, hiByte w]
  | .cmpAbsX w => [0xDD, loByte w, hiByte w]
  | .cpxImm b => [0xE0, b]
  | .cpxZp b => [0xE4, b]
  | .cpxAbs w => [0xEC, loByte w, hiByte w]
  | .cpyImm b => [0xC0, b]
  | .cpyZp b => [0xC4, b]
  | .cpyAbs w => [0xCC, loByte w, hiByte w]
  | .decZp b => [0xC6, b]
  | .decAbs w => [0xCE, loByte w, hiByte w]
  | .decZpX b => [0xD6, b]
  | .decAbsX w => [0xDE, loByte w, hiByte w]
  | .dex => [0xCA]
  | .dey => [0x88]
  | .eorIndX b => [0x41, b]
  | .eorZp b => [0x45, b]
  | .eorImm b => [0x49, b]
  | .eorAbs w => [0x4D, loByte w, hiByte w]
  | .eorIndY b => [0x51, b]
  | .eorZpX b => [0x55, b]
  | .eorAbsY w => [0x59, loByte w, hiByte w]
  | .eorAbsX w => [0x5D, loByte w, hiByte w]
  | .incZp b => [0xE6, b]
  | .incAbs w => [0xEE, loByte w, hiByte w]
  | .incZpX b => [0xF6, b]
  | .incAbsX w => [0xFE, loByte w, hiByte w]
  | .inx => [0xE8]
  | .iny => [0xC8]
  | .jmpAbs w => [0x4C, loByte w, hiByte w]
  | .jmpInd w => [0x6C, loByte w, hiByte w]
  | .jsr w => [0x20, loByte w, hiByte w]
  | .ldaIndX b => [0xA1, b]
  | .ldaZp b => [0xA5, b]
  | .ldaImm b => [0xA9, b]
  | .ldaAbs w => [0xAD, loByte w, hiByte w]
  | .ldaIndY b => [0xB1, b]
  | .ldaZpX b => [0xB5, b]
  | .ldaAbsY w => [0xB9, loByte w, hiByte w]
  | .ldaAbsX w => [0xBD, loByte w, hiByte w]
  | .ldxImm b => [0xA2, b]
  | .ldxZp b => [0xA6, b]
  | .ldxAbs w => [0xAE, loByte w, hiByte w]
  | .ldxZpY b => [0xB6, b]
  | .ldxAbsY w => [0xBE, loByte w, hiByte w]
  | .ldyImm b => [0xA0, b]
  | .ldyZp b => [0xA4, b]
  | .ldyAbs w => [0xAC, loByte w, hiByte w]
  | .ldyZpX b => [0xB4, b]
  | .ldyAbsX w => [0xBC, loByte w, hiByte w]
  | .lsrZp b => [0x46, b]
  | .lsrAcc => [0x4A]
  | .lsrAbs w => [0x4E, loByte w, hiByte w]
  | .lsrZpX b => [0x56, b]
  | .lsrAbsX w => [0x5E, loByte w, hiByte w]
  | .nop => [0xEA]
  | .oraIndX b => [0x01, b]
  | .oraZp b => [0x05, b]
  | .oraImm b => [0x09, b]
  | .oraAbs w => [0x0D, loByte w, hiByte w]
  | .oraIndY b => [0x11, b]
  | .oraZpX b => [0x15, b]
  | .oraAbsY w => [0x19, loByte w, hiByte w]
  | .oraAbsX w => [0x1D, loByte w, hiByte w]
  | .pha => [0x48]
  | .php => [0x08]
  | .pla => [0x68]
  | .plp => [0x28]
  | .rolZp b => [0x26, b]
  | .rolAcc => [0x2A]
  | .rolAbs w => [0x2E, loByte w, hiByte w]
  | .rolZpX b => [0x36, b]
  | .rolAbsX w => [0x3E, loByte w, hiByte w]
  | .rorZp b => [0x66, b]
  | .rorAcc => [0x6A]
  | .rorAbs w => [0x6E, loByte w, hiByte w]
  | .rorZpX b => [0x76, b]
  | .rorAbsX w => [0x7E, loByte w, hiByte w]
  | .rti => [0x40]
  | .rts => [0x60]
  | .sbcIndX b => [0xE1, b]
  | .sbcZp b => [0xE5, b]
  | .sbcImm b => [0xE9, b]
  | .sbcAbs w => [0xED, loByte w, hiByte w]
  | .sbcIndY b => [0xF1, b]
  | .sbcZpX b => [0xF5, b]
  | .sbcAbsY w => [0xF9, loByte w, hiByte w]
  | .sbcAbsX w => [0xFD, loByte w, hiByte w]
  | .sec => [0x38]
  | .sed => [0xF8]
  | .sei => [0x78]
  | .staIndX b => [0x81, b]
  | .staZp b => [0x85, b]
  | .staAbs w => [0x8D, loByte w, hiByte w]
  | .staIndY b => [0x91, b]
  | .staZpX b => [0x95, b]
  | .staAbsY w => [0x99, loByte w, hiByte w]
  | .staAbsX w => [0x9D, loByte w, hiByte w]
  | .stxZp b => [0x86, b]
  | .stxAbs w => [0x8E, loByte w, hiByte w]
  | .stxZpY b => [0x96, b]
  | .styZp b => [0x84, b]
  | .styAbs w => [0x8C, loByte w, hiByte w]
  | .styZpX b => [0x94, b]
  | .tax => [0xAA]
  | .tay => [0xA8]
  | .tsx => [0xBA]
  | .txa => [0x8A]
  | .txs => [0x9A]
  | .tya => [0x98]

/-- The total length in bytes of an instruction (30_encoding.md R80, R81). -/
def Instr.length (i : Instr) : Nat := (encode i).length

/-- The byte number `k` of an instruction whose bits are `w`, bit 0 the least significant bit of the first
byte, and whose bits at and above `nbits` are 0. -/
def tableByte (nbits w k : Nat) : Byte := BitVec.ofNat 8 ((w % 2 ^ nbits) / 2 ^ (8 * k))

/-- The three bytes, as the hardware stores them in ascending addresses, of such an instruction. -/
def tableBytes (nbits w : Nat) : List Byte := [tableByte nbits w 0, tableByte nbits w 1, tableByte nbits w 2]

/-- The instruction the decoder reads from an opcode-table word. -/
def decodeTableWord (nbits w : Nat) : Option Instr :=
  match decode (tableBytes nbits w) with
  | .instr i _ => some i
  | .bad _ => none

end Sys2Proof
end

