-- ==== Sys2Proof/Machine/State.lean ====
section
/-! DEFINITION. The architectural state: the closed list of 10_state.md (A, X, Y, SP, PC, P, Mem, run_state,
fault) as plain data, the reasons a step could stop, and the state after reset. -/

namespace Sys2Proof.Machine

/-- The two states of the Execution Engine (10_state.md R29). -/
inductive RunState where
  | running
  | halted
  deriving DecidableEq, Repr

/-- The errors a step can record in `fault` (10_state.md R30, 60_exceptions.md R250). -/
inductive StepError where
  /-- `UnknownOpcode(byte)` (R251): raised by the step at the catalog lookup. -/
  | unknownOpcode (byte : Byte)
  /-- `UnsupportedAddressingMode` (R252): raised by the resolver when asked to resolve `NoAddress`; unreachable. -/
  | unsupportedAddressingMode
  deriving DecidableEq, Repr

/-- The three error kinds of 60_exceptions.md R250. `ProgramTooLarge` is a result of the host operation `load` and
is never stored in `fault` (R253). -/
inductive HostError where
  /-- An error a step raised. -/
  | step (e : StepError)
  /-- `ProgramTooLarge` (R282): raised by `load`. -/
  | programTooLarge
  deriving DecidableEq, Repr

/-- The 64 KiB memory (10_state.md R28): (address, byte) pairs in the canonical form `Memory.wf` of Ops.lean. -/
abbrev Memory := List Host.Cell

/-- The state of the machine: every element of 10_state.md, and nothing else (R33, R34). -/
structure State where
  /-- A, the accumulator (R20). -/
  a : Byte
  /-- X, index register X (R21). -/
  x : Byte
  /-- Y, index register Y (R22). -/
  y : Byte
  /-- SP, the stack pointer, an offset into the stack page (R23). -/
  sp : Byte
  /-- PC, the program counter (R24). -/
  pc : Word
  /-- P, the status byte, read and written through the flags of Flags.lean (R25). -/
  p : Byte
  /-- Mem, the memory (R28). -/
  mem : Memory
  /-- run_state (R29). -/
  runState : RunState
  /-- fault: why the engine halted, if an error halted it (R30). -/
  fault : Option StepError
  deriving DecidableEq, Repr

/-- The faults a step can end in: none. Every error of this hardware is recorded in the state and the
step ends in a next state (60_exceptions.md R254; log 6, safe), and no handler can raise one (R250), so the type
has no constructor and no meaning can answer a fault. -/
inductive Fault where
  deriving DecidableEq, Repr

/-- The reasons a step can have no meaning. -/
inductive Refusal where
  /-- Raised by an arm of `exec` whose instruction has no meaning yet; no arm does (safe). -/
  | notModelled (mnemonic : String)
  deriving DecidableEq, Repr

/-- What an instruction's meaning answers. -/
abbrev Result := Host.Outcome State Fault Refusal

/-- The machine right after reset: `new` (70_reset_and_hazards.md R280), then `reset` (R283), with nothing loaded, so
that PC is the word 0x0000 of the zero memory at 0xFFFC (10_state.md R32; log 4). SP and P are the parameters of
00_scope.md R5 at their defaults (log 1, log 2). -/
def State.reset : State :=
  { a := 0x00, x := 0x00, y := 0x00, sp := Config.default.spReset, pc := 0x0000,
    p := Config.default.statusReset, mem := [], runState := .running, fault := none }

end Sys2Proof.Machine
end

