-- ==== Sys2Proof/Machine/Ops.lean ====
section
/-! DEFINITION. The named operations over memory and registers: the memory primitives (20_memory.md R51 to R54,
40_engine_and_resolver.md R121), the stack primitives (R127 to R130), raising an error (60_exceptions.md R254) and halting. -/

namespace Sys2Proof.Machine

/-- Writes the field `a` and no other. -/
def State.setA (s : State) (v : Byte) : State := { s with a := v }

/-- Writes the field `x` and no other. -/
def State.setX (s : State) (v : Byte) : State := { s with x := v }

/-- Writes the field `y` and no other. -/
def State.setY (s : State) (v : Byte) : State := { s with y := v }

/-- Writes the field `sp` and no other. -/
def State.setSp (s : State) (v : Byte) : State := { s with sp := v }

/-- Writes the field `pc` and no other. -/
def State.setPc (s : State) (v : Word) : State := { s with pc := v }

/-- Writes the field `p` and no other. -/
def State.setP (s : State) (v : Byte) : State := { s with p := v }

/-- Writes the field `mem` and no other. -/
def State.setMem (s : State) (v : Memory) : State := { s with mem := v }

/-- Writes the field `runState` and no other. -/
def State.setRunState (s : State) (v : RunState) : State := { s with runState := v }

/-- Writes the field `fault` and no other. -/
def State.setFault (s : State) (v : Option StepError) : State := { s with fault := v }

/-- What an address that is not listed reads as: 0x00, the byte `new` fills memory with
(10_state.md R32, 70_reset_and_hazards.md R280). -/
def Memory.unlisted : Byte := 0x00

/-- The byte at address `n`. -/
def Memory.lookup : Memory → Nat → Byte
  | [], _ => Memory.unlisted
  | (k, v) :: rest, n => if k = n then v else Memory.lookup rest n

/-- Lists the cell `(n, v)` before the first listed address above `n`. -/
def Memory.insertCell (n : Nat) (v : Byte) : Memory → Memory
  | [] => [(n, v)]
  | (k, w) :: rest => if n < k then (n, v) :: (k, w) :: rest else (k, w) :: Memory.insertCell n v rest

/-- Sets the byte at address `n`: the old cell goes, and a new one is listed unless `v` is what an unlisted
address reads as. -/
def Memory.store (m : Memory) (n : Nat) (v : Byte) : Memory :=
  let others := m.filter fun c => c.1 != n
  if v = Memory.unlisted then others else Memory.insertCell n v others

/-- The canonical form: addresses strictly rising and inside the 64 KiB space (20_memory.md R50), no cell equal to
what an unlisted address reads as. Two memories in this form that read alike are equal. -/
abbrev Memory.wf (m : Memory) : Prop :=
  m.Pairwise (fun c d => c.1 < d.1) ∧ ∀ c ∈ m, c.1 < 65536 ∧ c.2 ≠ Memory.unlisted

/-- `MemRead(addr, 1)` (20_memory.md R51). -/
def State.readByte (s : State) (addr : Word) : Byte := s.mem.lookup addr.toNat

/-- `MemWrite(addr, 1, v)` (20_memory.md R52). -/
def State.writeByte (s : State) (addr : Word) (v : Byte) : State := s.setMem (s.mem.store addr.toNat v)

/-- `MemRead(addr, 2)` (20_memory.md R53): little-endian, modulo 65 536. -/
def State.readWord (s : State) (addr : Word) : Word := wordOf (s.readByte (addr + 1)) (s.readByte addr)

/-- `MemWrite(addr, 2, w)` (20_memory.md R54). -/
def State.writeWord (s : State) (addr w : Word) : State :=
  (s.writeByte addr (loByte w)).writeByte (addr + 1) (hiByte w)

/-- `ZpWord(p)` (40_engine_and_resolver.md R121): the high byte's fetch wraps inside page 0. -/
def State.zpWord (s : State) (p : Byte) : Word :=
  wordOf (s.readByte (zext16 (p + 1))) (s.readByte (zext16 p))

/-- The bytes at `n` consecutive addresses from `addr` on, modulo 65 536. -/
def State.bytesAt (s : State) (addr : Word) : Nat → List Byte
  | 0 => []
  | n + 1 => s.readByte addr :: s.bytesAt (addr + 1) n

/-- Writes a byte string at consecutive addresses from `addr` on, modulo 65 536, in ascending order. -/
def State.writeBytes (s : State) (addr : Word) : List Byte → State
  | [] => s
  | b :: rest => (s.writeByte addr b).writeBytes (addr + 1) rest

/-- The stack location an offset designates (10_state.md R23): `0x0100 + zext_16(sp)`. -/
def stackAddr (sp : Byte) : Word := stackBase + zext16 sp

/-- `push8(v)` (40_engine_and_resolver.md R127; log 16): write, then decrement SP modulo 256. -/
def push8 (v : Byte) (s : State) : State := (s.writeByte (stackAddr s.sp) v).setSp (s.sp - 1)

/-- `pull8()` (40_engine_and_resolver.md R128; log 16): increment SP modulo 256, then read. -/
def pull8 (s : State) : Byte × State := (s.readByte (stackAddr (s.sp + 1)), s.setSp (s.sp + 1))

/-- `push16(w)` (40_engine_and_resolver.md R129): the high byte first. -/
def push16 (w : Word) (s : State) : State := push8 (loByte w) (push8 (hiByte w) s)

/-- `pull16()` (40_engine_and_resolver.md R130): the low byte first. -/
def pull16 (s : State) : Word × State :=
  (wordOf (pull8 (pull8 s).2).1 (pull8 s).1, (pull8 (pull8 s).2).2)

/-- `halt`: Halted with no error (00_scope.md R7). -/
def halt (s : State) : State := s.setRunState .halted

/-- `raise E(info)` (60_exceptions.md R254), the one way this hardware takes an exception: it records the error and
halts, and does nothing else. There is no saved context, no vector and no return (R258). -/
def raise (e : StepError) (s : State) : State := (s.setFault (some e)).setRunState .halted

end Sys2Proof.Machine
end

