-- ==== Sys2Proof/Machine/Flags.lean ====
section
/-! DEFINITION. The status byte P and every flag computation of the spec, as functions of bytes: the flag operations
(10_state.md R25 to R27), and for each arithmetic, logic, compare and shift operation the result byte
and the new P. -/

namespace Sys2Proof.Machine

/-- The eight named flags (10_state.md R25). -/
inductive Flag where
  | carry | zero | interruptDisable | decimal | break | break2 | overflow | negative
  deriving DecidableEq, Repr

/-- The bit of P a flag stands in (10_state.md R25, the spec's decision D1; log 11). -/
def Flag.bit : Flag → Nat
  | .carry => 0
  | .zero => 1
  | .interruptDisable => 2
  | .decimal => 3
  | .break => 4
  | .break2 => 5
  | .overflow => 6
  | .negative => 7

/-- The mask of a flag (10_state.md R25). -/
def Flag.mask (f : Flag) : Byte := 1#8 <<< f.bit

/-- `test(flag)` on a status byte (10_state.md R26). -/
def testFlag (p : Byte) (f : Flag) : Bool := p.getLsbD f.bit

/-- `set(flag)` or `clear(flag)` on a status byte (10_state.md R26); every other bit stays. -/
def putFlag (p : Byte) (f : Flag) (b : Bool) : Byte := if b then p ||| f.mask else p &&& ~~~f.mask

/-- A flag of the state, `P.<flag>`. -/
def State.flag (s : State) (f : Flag) : Bool := testFlag s.p f

/-- `setZN(v)` (10_state.md R27) on a status byte: Z iff `v` is 0, N is bit 7 of `v`. -/
def setZN (v p : Byte) : Byte := putFlag (putFlag p .zero (v == 0)) .negative v.msb

/-- The carry flag as the number 0 or 1. -/
def carryNat (p : Byte) : Nat := (testFlag p .carry).toNat

/-- ADC (42_arithmetic_logic.md R160): the new A and P from A, the operand and P. Always binary (log 17). -/
def adc (a m p : Byte) : Byte × Byte :=
  let sum := a.toNat + m.toNat + carryNat p
  let r := BitVec.ofNat 8 sum
  let p1 := putFlag p .carry (decide (sum > 255))
  let p2 := putFlag p1 .overflow ((((a ^^^ r) &&& (m ^^^ r)) &&& 0x80#8) != 0)
  (r, setZN r p2)

/-- SBC (42_arithmetic_logic.md R161): ADC of the operand's one's complement. -/
def sbc (a m p : Byte) : Byte × Byte := adc a (m ^^^ 0xFF) p

/-- AND, ORA, EOR (42_arithmetic_logic.md R162 to R164): the bitwise result and `setZN` of it. -/
def andOp (a m p : Byte) : Byte × Byte := (a &&& m, setZN (a &&& m) p)
@[inherit_doc andOp] def oraOp (a m p : Byte) : Byte × Byte := (a ||| m, setZN (a ||| m) p)
@[inherit_doc andOp] def eorOp (a m p : Byte) : Byte × Byte := (a ^^^ m, setZN (a ^^^ m) p)

/-- CMP, CPX, CPY (42_arithmetic_logic.md R165 to R167): the new P from the register, the operand and P. -/
def compareStatus (r m p : Byte) : Byte :=
  let t := r - m
  putFlag (putFlag (putFlag p .carry (decide (m.toNat ≤ r.toNat))) .zero (r == m)) .negative t.msb

/-- BIT (42_arithmetic_logic.md R168): Z from the and, N and V from bits 7 and 6 of the operand. -/
def bitTest (a m p : Byte) : Byte :=
  putFlag (putFlag (putFlag p .zero ((a &&& m) == 0)) .negative (m.getLsbD 7)) .overflow (m.getLsbD 6)

/-- INC, INX, INY (42_arithmetic_logic.md R169, R171, R172): the new value and P. -/
def increment (v p : Byte) : Byte × Byte := (v + 1, setZN (v + 1) p)

/-- DEC, DEX, DEY (42_arithmetic_logic.md R170, R173, R174): the new value and P. -/
def decrement (v p : Byte) : Byte × Byte := (v - 1, setZN (v - 1) p)

/-- ASL (43_shift_rotate.md R190): the new value and P. -/
def asl (v p : Byte) : Byte × Byte :=
  let r := v <<< 1
  (r, setZN r (putFlag p .carry (v.getLsbD 7)))

/-- LSR (43_shift_rotate.md R191). -/
def lsr (v p : Byte) : Byte × Byte :=
  let r := v >>> 1
  (r, setZN r (putFlag p .carry (v.getLsbD 0)))

/-- ROL (43_shift_rotate.md R192): the old carry enters at bit 0. -/
def rol (v p : Byte) : Byte × Byte :=
  let r := (v <<< 1) ||| BitVec.ofNat 8 (carryNat p)
  (r, setZN r (putFlag p .carry (v.getLsbD 7)))

/-- ROR (43_shift_rotate.md R193): the old carry enters at bit 7. -/
def ror (v p : Byte) : Byte × Byte :=
  let r := (v >>> 1) ||| (BitVec.ofNat 8 (carryNat p) <<< 7)
  (r, setZN r (putFlag p .carry (v.getLsbD 0)))

/-- The byte PHP pushes (45_stack_flags_system.md R221): P with Break and Break2 set (log 18). -/
def pushedStatus (p : Byte) : Byte := p ||| 0x30

/-- P after PLP or RTI pulls `v` (45_stack_flags_system.md R223, R233): Break and Break2 stay (log 18). -/
def pulledStatus (v p : Byte) : Byte := (v &&& 0xCF) ||| (p &&& 0x30)

end Sys2Proof.Machine
end

