-- ==== Sys2Proof/Machine/Operands.lean ====
section
/-! DEFINITION. The addressing-mode resolver (40_engine_and_resolver.md R114 to R126) and the access classes
(R133): how an instruction's operand bytes become an effective address, an operand value and a write
back, and where PC ends (R113). A meaning is given the state whose PC is the address of the opcode byte, so
`pc_op = PC + 1` and `pc_next = PC + length` (R110; log 7). -/

namespace Sys2Proof.Machine

/-- The operand bytes of an instruction of two bytes (`b1`) or of three (`w = {b2, b1}`) (30_encoding.md R80). -/
inductive Operand where
  | byte (b1 : Byte)
  | word (w : Word)
  deriving DecidableEq, Repr

/-- `b1`, the first operand byte. -/
def Operand.b1 : Operand → Byte
  | .byte b => b
  | .word w => loByte w

/-- `w`, the operand as a word. -/
def Operand.w : Operand → Word
  | .byte b => zext16 b
  | .word w => w

/-- The length of an instruction with this operand, opcode included (30_encoding.md R80). -/
def Operand.length : Operand → Word
  | .byte _ => 2
  | .word _ => 3

/-- ZeroPage (R115): `zext_16(b1)`. -/
def eaZeroPage (b1 : Byte) : Word := zext16 b1

/-- ZeroPageX (R116): `zext_16(b1 +8 X)`. -/
def eaZeroPageX (b1 : Byte) (s : State) : Word := zext16 (b1 + s.x)

/-- ZeroPageY (R117): `zext_16(b1 +8 Y)`. -/
def eaZeroPageY (b1 : Byte) (s : State) : Word := zext16 (b1 + s.y)

/-- AbsoluteX (R119): `w +16 zext_16(X)`. -/
def eaAbsoluteX (w : Word) (s : State) : Word := w + zext16 s.x

/-- AbsoluteY (R120): `w +16 zext_16(Y)`. -/
def eaAbsoluteY (w : Word) (s : State) : Word := w + zext16 s.y

/-- IndirectX (R122): `ZpWord(b1 +8 X)`. -/
def eaIndirectX (b1 : Byte) (s : State) : Word := s.zpWord (b1 + s.x)

/-- IndirectY (R123): `ZpWord(b1) +16 zext_16(Y)`. -/
def eaIndirectY (b1 : Byte) (s : State) : Word := s.zpWord b1 + zext16 s.y

/-- `Resolve(tag, pc_op)` (R114 to R124, R126): the effective address, a total function of the tag that writes
nothing. `opnd` is the operand bytes that stand at `pcOp`. -/
def resolve (tag : AddressMode) (pcOp : Word) (opnd : Operand) (s : State) : Except StepError Word :=
  match tag with
  | .immediate => .ok pcOp
  | .zeroPage => .ok (eaZeroPage opnd.b1)
  | .zeroPageX => .ok (eaZeroPageX opnd.b1 s)
  | .zeroPageY => .ok (eaZeroPageY opnd.b1 s)
  | .absolute => .ok opnd.w
  | .absoluteX => .ok (eaAbsoluteX opnd.w s)
  | .absoluteY => .ok (eaAbsoluteY opnd.w s)
  | .indirectX => .ok (eaIndirectX opnd.b1 s)
  | .indirectY => .ok (eaIndirectY opnd.b1 s)
  | .noAddress => .error .unsupportedAddressingMode

/-- The operand byte M (00_scope.md R7). For Immediate it is `b1` itself (30_encoding.md R84), which stands in memory at
`ea = pc_op` (R114; log 7). -/
def operandByte (tag : AddressMode) (opnd : Operand) (ea : Word) (s : State) : Byte :=
  match tag with
  | .immediate => opnd.b1
  | _ => s.readByte ea

/-- Lines 3 to 5 of the step (R110) for an instruction whose tag is resolved: the handler `h` is run with the
effective address, then PC goes to `pc_next`. A resolver error is raised with PC as line 1 left it; no tag a
meaning names gives one (R252). -/
def withEa (tag : AddressMode) (opnd : Operand) (h : Word → State → State) (s : State) : Result :=
  match resolve tag (s.pc + 1) opnd s with
  | .ok ea => .next ((h ea s).setPc (s.pc + opnd.length))
  | .error e => .next (raise e (s.setPc (s.pc + 1)))

/-- Access class "read" (R133): the handler gets the operand byte M. -/
def readForm (tag : AddressMode) (opnd : Operand) (h : Byte → State → State) (s : State) : Result :=
  withEa tag opnd (fun ea s => h (operandByte tag opnd ea s) s) s

/-- Access class "write" (R133): `MemWrite(ea, 1, v)`, with no read of `ea`. -/
def writeForm (tag : AddressMode) (opnd : Operand) (v : Byte) (s : State) : Result :=
  withEa tag opnd (fun ea s => s.writeByte ea v) s

/-- A read-modify-write of the byte at `ea`: `f` gives the new byte and the new P from the old ones. -/
def modifyByte (f : Byte → Byte → Byte × Byte) (ea : Word) (s : State) : State :=
  (s.writeByte ea (f (s.readByte ea) s.p).1).setP (f (s.readByte ea) s.p).2

/-- Access class "read-modify-write" (R133). -/
def modifyForm (tag : AddressMode) (opnd : Operand) (f : Byte → Byte → Byte × Byte) (s : State) : Result :=
  withEa tag opnd (modifyByte f) s

/-- An instruction of one byte, form Implied: the handler runs, then PC goes to `pc_next`. -/
def impliedForm (h : State → State) (s : State) : Result := .next ((h s).setPc (s.pc + 1))

/-- A modification of A: `f` gives the new A and the new P from the old ones. -/
def modifyA (f : Byte → Byte → Byte × Byte) (s : State) : State := (s.setA (f s.a s.p).1).setP (f s.a s.p).2

/-- Access class "accumulator" (R133): the operand and the destination are A (R125). -/
def accumulatorForm (f : Byte → Byte → Byte × Byte) (s : State) : Result := impliedForm (modifyA f) s

/-- A taken control transfer: the handler runs, then PC is `target` exactly (R113, decision D8; log 14). -/
def transferForm (target : Word) (h : State → State) (s : State) : Result := .next ((h s).setPc target)

/-- Form Relative (R125, 44_control_transfer.md R204): `pc_next +16 sext_16(off)` if the condition holds, else
`pc_next`. -/
def branchForm (cond : Bool) (off : Byte) (s : State) : Result :=
  transferForm (if cond then s.pc + 2 + sext16 off else s.pc + 2) id s

/-- IndirectJump's target (44_control_transfer.md R201): the second pointer byte comes from the page of the first
(log 19). -/
def indirectTarget (ptr : Word) (s : State) : Word :=
  wordOf (s.readByte (wordOf (hiByte ptr) (loByte ptr + 1))) (s.readByte ptr)

end Sys2Proof.Machine
end

