-- ==== Sys2Proof/Machine/Arithmetic.lean ====
section
/-! DEFINITION. The meanings of 42_arithmetic_logic.md: ADC, SBC, AND, ORA, EOR, CMP, CPX, CPY, BIT, INC, DEC, INX, INY, DEX,
DEY (R160 to R175). -/

namespace Sys2Proof.Machine

/-- Writes A and P from an operation on A, the operand byte and P. -/
def intoA (f : Byte → Byte → Byte → Byte × Byte) (m : Byte) (s : State) : State :=
  (s.setA (f s.a m s.p).1).setP (f s.a m s.p).2

/-- The handler of ADC (R160). -/
def handleAdc (m : Byte) (s : State) : State := intoA adc m s

/-- 0x69 `ADC #b` (R160). -/
def execAdcImm (b : Byte) (s : State) : Result :=
  readForm .immediate (.byte b) handleAdc s

/-- 0x65 `ADC b` (R160). -/
def execAdcZp (b : Byte) (s : State) : Result :=
  readForm .zeroPage (.byte b) handleAdc s

/-- 0x75 `ADC b,X` (R160). -/
def execAdcZpX (b : Byte) (s : State) : Result :=
  readForm .zeroPageX (.byte b) handleAdc s

/-- 0x6D `ADC w` (R160). -/
def execAdcAbs (w : Word) (s : State) : Result :=
  readForm .absolute (.word w) handleAdc s

/-- 0x7D `ADC w,X` (R160). -/
def execAdcAbsX (w : Word) (s : State) : Result :=
  readForm .absoluteX (.word w) handleAdc s

/-- 0x79 `ADC w,Y` (R160). -/
def execAdcAbsY (w : Word) (s : State) : Result :=
  readForm .absoluteY (.word w) handleAdc s

/-- 0x61 `ADC (b,X)` (R160). -/
def execAdcIndX (b : Byte) (s : State) : Result :=
  readForm .indirectX (.byte b) handleAdc s

/-- 0x71 `ADC (b),Y` (R160). -/
def execAdcIndY (b : Byte) (s : State) : Result :=
  readForm .indirectY (.byte b) handleAdc s

/-- The handler of SBC (R161). -/
def handleSbc (m : Byte) (s : State) : State := intoA sbc m s

/-- 0xE9 `SBC #b` (R161). -/
def execSbcImm (b : Byte) (s : State) : Result :=
  readForm .immediate (.byte b) handleSbc s

/-- 0xE5 `SBC b` (R161). -/
def execSbcZp (b : Byte) (s : State) : Result :=
  readForm .zeroPage (.byte b) handleSbc s

/-- 0xF5 `SBC b,X` (R161). -/
def execSbcZpX (b : Byte) (s : State) : Result :=
  readForm .zeroPageX (.byte b) handleSbc s

/-- 0xED `SBC w` (R161). -/
def execSbcAbs (w : Word) (s : State) : Result :=
  readForm .absolute (.word w) handleSbc s

/-- 0xFD `SBC w,X` (R161). -/
def execSbcAbsX (w : Word) (s : State) : Result :=
  readForm .absoluteX (.word w) handleSbc s

/-- 0xF9 `SBC w,Y` (R161). -/
def execSbcAbsY (w : Word) (s : State) : Result :=
  readForm .absoluteY (.word w) handleSbc s

/-- 0xE1 `SBC (b,X)` (R161). -/
def execSbcIndX (b : Byte) (s : State) : Result :=
  readForm .indirectX (.byte b) handleSbc s

/-- 0xF1 `SBC (b),Y` (R161). -/
def execSbcIndY (b : Byte) (s : State) : Result :=
  readForm .indirectY (.byte b) handleSbc s

/-- The handler of AND (R162). -/
def handleAnd (m : Byte) (s : State) : State := intoA andOp m s

/-- 0x29 `AND #b` (R162). -/
def execAndImm (b : Byte) (s : State) : Result :=
  readForm .immediate (.byte b) handleAnd s

/-- 0x25 `AND b` (R162). -/
def execAndZp (b : Byte) (s : State) : Result :=
  readForm .zeroPage (.byte b) handleAnd s

/-- 0x35 `AND b,X` (R162). -/
def execAndZpX (b : Byte) (s : State) : Result :=
  readForm .zeroPageX (.byte b) handleAnd s

/-- 0x2D `AND w` (R162). -/
def execAndAbs (w : Word) (s : State) : Result :=
  readForm .absolute (.word w) handleAnd s

/-- 0x3D `AND w,X` (R162). -/
def execAndAbsX (w : Word) (s : State) : Result :=
  readForm .absoluteX (.word w) handleAnd s

/-- 0x39 `AND w,Y` (R162). -/
def execAndAbsY (w : Word) (s : State) : Result :=
  readForm .absoluteY (.word w) handleAnd s

/-- 0x21 `AND (b,X)` (R162). -/
def execAndIndX (b : Byte) (s : State) : Result :=
  readForm .indirectX (.byte b) handleAnd s

/-- 0x31 `AND (b),Y` (R162). -/
def execAndIndY (b : Byte) (s : State) : Result :=
  readForm .indirectY (.byte b) handleAnd s

/-- The handler of ORA (R163). -/
def handleOra (m : Byte) (s : State) : State := intoA oraOp m s

/-- 0x09 `ORA #b` (R163). -/
def execOraImm (b : Byte) (s : State) : Result :=
  readForm .immediate (.byte b) handleOra s

/-- 0x05 `ORA b` (R163). -/
def execOraZp (b : Byte) (s : State) : Result :=
  readForm .zeroPage (.byte b) handleOra s

/-- 0x15 `ORA b,X` (R163). -/
def execOraZpX (b : Byte) (s : State) : Result :=
  readForm .zeroPageX (.byte b) handleOra s

/-- 0x0D `ORA w` (R163). -/
def execOraAbs (w : Word) (s : State) : Result :=
  readForm .absolute (.word w) handleOra s

/-- 0x1D `ORA w,X` (R163). -/
def execOraAbsX (w : Word) (s : State) : Result :=
  readForm .absoluteX (.word w) handleOra s

/-- 0x19 `ORA w,Y` (R163). -/
def execOraAbsY (w : Word) (s : State) : Result :=
  readForm .absoluteY (.word w) handleOra s

/-- 0x01 `ORA (b,X)` (R163). -/
def execOraIndX (b : Byte) (s : State) : Result :=
  readForm .indirectX (.byte b) handleOra s

/-- 0x11 `ORA (b),Y` (R163). -/
def execOraIndY (b : Byte) (s : State) : Result :=
  readForm .indirectY (.byte b) handleOra s

/-- The handler of EOR (R164). -/
def handleEor (m : Byte) (s : State) : State := intoA eorOp m s

/-- 0x49 `EOR #b` (R164). -/
def execEorImm (b : Byte) (s : State) : Result :=
  readForm .immediate (.byte b) handleEor s

/-- 0x45 `EOR b` (R164). -/
def execEorZp (b : Byte) (s : State) : Result :=
  readForm .zeroPage (.byte b) handleEor s

/-- 0x55 `EOR b,X` (R164). -/
def execEorZpX (b : Byte) (s : State) : Result :=
  readForm .zeroPageX (.byte b) handleEor s

/-- 0x4D `EOR w` (R164). -/
def execEorAbs (w : Word) (s : State) : Result :=
  readForm .absolute (.word w) handleEor s

/-- 0x5D `EOR w,X` (R164). -/
def execEorAbsX (w : Word) (s : State) : Result :=
  readForm .absoluteX (.word w) handleEor s

/-- 0x59 `EOR w,Y` (R164). -/
def execEorAbsY (w : Word) (s : State) : Result :=
  readForm .absoluteY (.word w) handleEor s

/-- 0x41 `EOR (b,X)` (R164). -/
def execEorIndX (b : Byte) (s : State) : Result :=
  readForm .indirectX (.byte b) handleEor s

/-- 0x51 `EOR (b),Y` (R164). -/
def execEorIndY (b : Byte) (s : State) : Result :=
  readForm .indirectY (.byte b) handleEor s

/-- The handler of CMP (R165): writes P only. -/
def handleCmp (m : Byte) (s : State) : State := s.setP (compareStatus s.a m s.p)

/-- 0xC9 `CMP #b` (R165). -/
def execCmpImm (b : Byte) (s : State) : Result :=
  readForm .immediate (.byte b) handleCmp s

/-- 0xC5 `CMP b` (R165). -/
def execCmpZp (b : Byte) (s : State) : Result :=
  readForm .zeroPage (.byte b) handleCmp s

/-- 0xD5 `CMP b,X` (R165). -/
def execCmpZpX (b : Byte) (s : State) : Result :=
  readForm .zeroPageX (.byte b) handleCmp s

/-- 0xCD `CMP w` (R165). -/
def execCmpAbs (w : Word) (s : State) : Result :=
  readForm .absolute (.word w) handleCmp s

/-- 0xDD `CMP w,X` (R165). -/
def execCmpAbsX (w : Word) (s : State) : Result :=
  readForm .absoluteX (.word w) handleCmp s

/-- 0xD9 `CMP w,Y` (R165). -/
def execCmpAbsY (w : Word) (s : State) : Result :=
  readForm .absoluteY (.word w) handleCmp s

/-- 0xC1 `CMP (b,X)` (R165). -/
def execCmpIndX (b : Byte) (s : State) : Result :=
  readForm .indirectX (.byte b) handleCmp s

/-- 0xD1 `CMP (b),Y` (R165). -/
def execCmpIndY (b : Byte) (s : State) : Result :=
  readForm .indirectY (.byte b) handleCmp s

/-- The handler of CPX (R166): writes P only. -/
def handleCpx (m : Byte) (s : State) : State := s.setP (compareStatus s.x m s.p)

/-- 0xE0 `CPX #b` (R166). -/
def execCpxImm (b : Byte) (s : State) : Result :=
  readForm .immediate (.byte b) handleCpx s

/-- 0xE4 `CPX b` (R166). -/
def execCpxZp (b : Byte) (s : State) : Result :=
  readForm .zeroPage (.byte b) handleCpx s

/-- 0xEC `CPX w` (R166). -/
def execCpxAbs (w : Word) (s : State) : Result :=
  readForm .absolute (.word w) handleCpx s

/-- The handler of CPY (R167): writes P only. -/
def handleCpy (m : Byte) (s : State) : State := s.setP (compareStatus s.y m s.p)

/-- 0xC0 `CPY #b` (R167). -/
def execCpyImm (b : Byte) (s : State) : Result :=
  readForm .immediate (.byte b) handleCpy s

/-- 0xC4 `CPY b` (R167). -/
def execCpyZp (b : Byte) (s : State) : Result :=
  readForm .zeroPage (.byte b) handleCpy s

/-- 0xCC `CPY w` (R167). -/
def execCpyAbs (w : Word) (s : State) : Result :=
  readForm .absolute (.word w) handleCpy s

/-- The handler of BIT (R168): writes P only. -/
def handleBit (m : Byte) (s : State) : State := s.setP (bitTest s.a m s.p)

/-- 0x24 `BIT b` (R168). -/
def execBitZp (b : Byte) (s : State) : Result :=
  readForm .zeroPage (.byte b) handleBit s

/-- 0x2C `BIT w` (R168). -/
def execBitAbs (w : Word) (s : State) : Result :=
  readForm .absolute (.word w) handleBit s

/-- 0xE6 `INC b` (R169). -/
def execIncZp (b : Byte) (s : State) : Result :=
  modifyForm .zeroPage (.byte b) increment s

/-- 0xF6 `INC b,X` (R169). -/
def execIncZpX (b : Byte) (s : State) : Result :=
  modifyForm .zeroPageX (.byte b) increment s

/-- 0xEE `INC w` (R169). -/
def execIncAbs (w : Word) (s : State) : Result :=
  modifyForm .absolute (.word w) increment s

/-- 0xFE `INC w,X` (R169). -/
def execIncAbsX (w : Word) (s : State) : Result :=
  modifyForm .absoluteX (.word w) increment s

/-- 0xC6 `DEC b` (R170). -/
def execDecZp (b : Byte) (s : State) : Result :=
  modifyForm .zeroPage (.byte b) decrement s

/-- 0xD6 `DEC b,X` (R170). -/
def execDecZpX (b : Byte) (s : State) : Result :=
  modifyForm .zeroPageX (.byte b) decrement s

/-- 0xCE `DEC w` (R170). -/
def execDecAbs (w : Word) (s : State) : Result :=
  modifyForm .absolute (.word w) decrement s

/-- 0xDE `DEC w,X` (R170). -/
def execDecAbsX (w : Word) (s : State) : Result :=
  modifyForm .absoluteX (.word w) decrement s

/-- The handler of INX (R171). -/
def handleInx (s : State) : State := (s.setX (increment s.x s.p).1).setP (increment s.x s.p).2

/-- 0xE8 `INX` (R171). -/
def execInx (s : State) : Result :=
  impliedForm handleInx s

/-- The handler of INY (R172). -/
def handleIny (s : State) : State := (s.setY (increment s.y s.p).1).setP (increment s.y s.p).2

/-- 0xC8 `INY` (R172). -/
def execIny (s : State) : Result :=
  impliedForm handleIny s

/-- The handler of DEX (R173). -/
def handleDex (s : State) : State := (s.setX (decrement s.x s.p).1).setP (decrement s.x s.p).2

/-- 0xCA `DEX` (R173). -/
def execDex (s : State) : Result :=
  impliedForm handleDex s

/-- The handler of DEY (R174). -/
def handleDey (s : State) : State := (s.setY (decrement s.y s.p).1).setP (decrement s.y s.p).2

/-- 0x88 `DEY` (R174). -/
def execDey (s : State) : Result :=
  impliedForm handleDey s

end Sys2Proof.Machine
end

