-- ==== Sys2Proof/Machine/Control.lean ====
section
/-! DEFINITION. The meanings of 44_control_transfer.md: JMP, JSR, RTS and the eight branches (R200 to R213). -/

namespace Sys2Proof.Machine

/-- 0x4C `JMP w` (R200). -/
def execJmpAbs (w : Word) (s : State) : Result :=
  transferForm w id s

/-- 0x6C `JMP (w)` (R201). -/
def execJmpInd (w : Word) (s : State) : Result :=
  transferForm (indirectTarget w s) id s

/-- 0x20 `JSR w` (R202): pushes `pc_op +16 1`, the address of the last byte of the instruction, then
transfers. The operand is read before the pushes (R110). -/
def execJsr (w : Word) (s : State) : Result :=
  transferForm w (push16 (s.pc + 2)) s

/-- 0x60 `RTS` (R203): `target <- pull16() +16 1`. -/
def execRts (s : State) : Result :=
  transferForm ((pull16 s).1 + 1) (fun s => (pull16 s).2) s

/-- 0x90 `BCC b` (R205). -/
def execBcc (b : Byte) (s : State) : Result :=
  branchForm (!s.flag .carry) b s

/-- 0xB0 `BCS b` (R206). -/
def execBcs (b : Byte) (s : State) : Result :=
  branchForm (s.flag .carry) b s

/-- 0xF0 `BEQ b` (R207). -/
def execBeq (b : Byte) (s : State) : Result :=
  branchForm (s.flag .zero) b s

/-- 0xD0 `BNE b` (R208). -/
def execBne (b : Byte) (s : State) : Result :=
  branchForm (!s.flag .zero) b s

/-- 0x30 `BMI b` (R209). -/
def execBmi (b : Byte) (s : State) : Result :=
  branchForm (s.flag .negative) b s

/-- 0x10 `BPL b` (R210). -/
def execBpl (b : Byte) (s : State) : Result :=
  branchForm (!s.flag .negative) b s

/-- 0x50 `BVC b` (R211). -/
def execBvc (b : Byte) (s : State) : Result :=
  branchForm (!s.flag .overflow) b s

/-- 0x70 `BVS b` (R212). -/
def execBvs (b : Byte) (s : State) : Result :=
  branchForm (s.flag .overflow) b s

end Sys2Proof.Machine
end

