-- ==== Sys2Proof/Machine/LoadStore.lean ====
section
/-! DEFINITION. The meanings of 41_load_store_transfer.md: LDA, LDX, LDY, STA, STX, STY and the register transfers
(R140 to R151). -/

namespace Sys2Proof.Machine

/-- The handler of LDA (R140): `A <- M; setZN(A)`. -/
def handleLda (m : Byte) (s : State) : State := (s.setA m).setP (setZN m s.p)

/-- 0xA9 `LDA #b` (R140). -/
def execLdaImm (b : Byte) (s : State) : Result :=
  readForm .immediate (.byte b) handleLda s

/-- 0xA5 `LDA b` (R140). -/
def execLdaZp (b : Byte) (s : State) : Result :=
  readForm .zeroPage (.byte b) handleLda s

/-- 0xB5 `LDA b,X` (R140). -/
def execLdaZpX (b : Byte) (s : State) : Result :=
  readForm .zeroPageX (.byte b) handleLda s

/-- 0xAD `LDA w` (R140). -/
def execLdaAbs (w : Word) (s : State) : Result :=
  readForm .absolute (.word w) handleLda s

/-- 0xBD `LDA w,X` (R140). -/
def execLdaAbsX (w : Word) (s : State) : Result :=
  readForm .absoluteX (.word w) handleLda s

/-- 0xB9 `LDA w,Y` (R140). -/
def execLdaAbsY (w : Word) (s : State) : Result :=
  readForm .absoluteY (.word w) handleLda s

/-- 0xA1 `LDA (b,X)` (R140). -/
def execLdaIndX (b : Byte) (s : State) : Result :=
  readForm .indirectX (.byte b) handleLda s

/-- 0xB1 `LDA (b),Y` (R140). -/
def execLdaIndY (b : Byte) (s : State) : Result :=
  readForm .indirectY (.byte b) handleLda s

/-- The handler of LDX (R141): `X <- M; setZN(X)`. -/
def handleLdx (m : Byte) (s : State) : State := (s.setX m).setP (setZN m s.p)

/-- 0xA2 `LDX #b` (R141). -/
def execLdxImm (b : Byte) (s : State) : Result :=
  readForm .immediate (.byte b) handleLdx s

/-- 0xA6 `LDX b` (R141). -/
def execLdxZp (b : Byte) (s : State) : Result :=
  readForm .zeroPage (.byte b) handleLdx s

/-- 0xB6 `LDX b,Y` (R141). -/
def execLdxZpY (b : Byte) (s : State) : Result :=
  readForm .zeroPageY (.byte b) handleLdx s

/-- 0xAE `LDX w` (R141). -/
def execLdxAbs (w : Word) (s : State) : Result :=
  readForm .absolute (.word w) handleLdx s

/-- 0xBE `LDX w,Y` (R141). -/
def execLdxAbsY (w : Word) (s : State) : Result :=
  readForm .absoluteY (.word w) handleLdx s

/-- The handler of LDY (R142): `Y <- M; setZN(Y)`. -/
def handleLdy (m : Byte) (s : State) : State := (s.setY m).setP (setZN m s.p)

/-- 0xA0 `LDY #b` (R142). -/
def execLdyImm (b : Byte) (s : State) : Result :=
  readForm .immediate (.byte b) handleLdy s

/-- 0xA4 `LDY b` (R142). -/
def execLdyZp (b : Byte) (s : State) : Result :=
  readForm .zeroPage (.byte b) handleLdy s

/-- 0xB4 `LDY b,X` (R142). -/
def execLdyZpX (b : Byte) (s : State) : Result :=
  readForm .zeroPageX (.byte b) handleLdy s

/-- 0xAC `LDY w` (R142). -/
def execLdyAbs (w : Word) (s : State) : Result :=
  readForm .absolute (.word w) handleLdy s

/-- 0xBC `LDY w,X` (R142). -/
def execLdyAbsX (w : Word) (s : State) : Result :=
  readForm .absoluteX (.word w) handleLdy s

/-- 0x85 `STA b` (R143). -/
def execStaZp (b : Byte) (s : State) : Result :=
  writeForm .zeroPage (.byte b) s.a s

/-- 0x95 `STA b,X` (R143). -/
def execStaZpX (b : Byte) (s : State) : Result :=
  writeForm .zeroPageX (.byte b) s.a s

/-- 0x8D `STA w` (R143). -/
def execStaAbs (w : Word) (s : State) : Result :=
  writeForm .absolute (.word w) s.a s

/-- 0x9D `STA w,X` (R143). -/
def execStaAbsX (w : Word) (s : State) : Result :=
  writeForm .absoluteX (.word w) s.a s

/-- 0x99 `STA w,Y` (R143). -/
def execStaAbsY (w : Word) (s : State) : Result :=
  writeForm .absoluteY (.word w) s.a s

/-- 0x81 `STA (b,X)` (R143). -/
def execStaIndX (b : Byte) (s : State) : Result :=
  writeForm .indirectX (.byte b) s.a s

/-- 0x91 `STA (b),Y` (R143). -/
def execStaIndY (b : Byte) (s : State) : Result :=
  writeForm .indirectY (.byte b) s.a s

/-- 0x86 `STX b` (R144). -/
def execStxZp (b : Byte) (s : State) : Result :=
  writeForm .zeroPage (.byte b) s.x s

/-- 0x96 `STX b,Y` (R144). -/
def execStxZpY (b : Byte) (s : State) : Result :=
  writeForm .zeroPageY (.byte b) s.x s

/-- 0x8E `STX w` (R144). -/
def execStxAbs (w : Word) (s : State) : Result :=
  writeForm .absolute (.word w) s.x s

/-- 0x84 `STY b` (R145). -/
def execStyZp (b : Byte) (s : State) : Result :=
  writeForm .zeroPage (.byte b) s.y s

/-- 0x94 `STY b,X` (R145). -/
def execStyZpX (b : Byte) (s : State) : Result :=
  writeForm .zeroPageX (.byte b) s.y s

/-- 0x8C `STY w` (R145). -/
def execStyAbs (w : Word) (s : State) : Result :=
  writeForm .absolute (.word w) s.y s

/-- The handler of TAX (R146): `X <- A; setZN(X)`. -/
def handleTax (s : State) : State := (s.setX s.a).setP (setZN s.a s.p)

/-- 0xAA `TAX` (R146). -/
def execTax (s : State) : Result :=
  impliedForm handleTax s

/-- The handler of TAY (R147): `Y <- A; setZN(Y)`. -/
def handleTay (s : State) : State := (s.setY s.a).setP (setZN s.a s.p)

/-- 0xA8 `TAY` (R147). -/
def execTay (s : State) : Result :=
  impliedForm handleTay s

/-- The handler of TXA (R148): `A <- X; setZN(A)`. -/
def handleTxa (s : State) : State := (s.setA s.x).setP (setZN s.x s.p)

/-- 0x8A `TXA` (R148). -/
def execTxa (s : State) : Result :=
  impliedForm handleTxa s

/-- The handler of TYA (R149): `A <- Y; setZN(A)`. -/
def handleTya (s : State) : State := (s.setA s.y).setP (setZN s.y s.p)

/-- 0x98 `TYA` (R149). -/
def execTya (s : State) : Result :=
  impliedForm handleTya s

/-- The handler of TSX (R150): `X <- SP; setZN(X)`. -/
def handleTsx (s : State) : State := (s.setX s.sp).setP (setZN s.sp s.p)

/-- 0xBA `TSX` (R150). -/
def execTsx (s : State) : Result :=
  impliedForm handleTsx s

/-- The handler of TXS (R151): `SP <- X`; the one transfer that writes no flag. -/
def handleTxs (s : State) : State := s.setSp s.x

/-- 0x9A `TXS` (R151). -/
def execTxs (s : State) : Result :=
  impliedForm handleTxs s

end Sys2Proof.Machine
end

