-- ==== Sys2Proof/Machine/Shift.lean ====
section
/-! DEFINITION. The meanings of 43_shift_rotate.md: ASL, LSR, ROL, ROR on A and on memory (R190 to R193). -/

namespace Sys2Proof.Machine

/-- 0x0A `ASL A` (R190). -/
def execAslAcc (s : State) : Result :=
  accumulatorForm asl s

/-- 0x06 `ASL b` (R190). -/
def execAslZp (b : Byte) (s : State) : Result :=
  modifyForm .zeroPage (.byte b) asl s

/-- 0x16 `ASL b,X` (R190). -/
def execAslZpX (b : Byte) (s : State) : Result :=
  modifyForm .zeroPageX (.byte b) asl s

/-- 0x0E `ASL w` (R190). -/
def execAslAbs (w : Word) (s : State) : Result :=
  modifyForm .absolute (.word w) asl s

/-- 0x1E `ASL w,X` (R190). -/
def execAslAbsX (w : Word) (s : State) : Result :=
  modifyForm .absoluteX (.word w) asl s

/-- 0x4A `LSR A` (R191). -/
def execLsrAcc (s : State) : Result :=
  accumulatorForm lsr s

/-- 0x46 `LSR b` (R191). -/
def execLsrZp (b : Byte) (s : State) : Result :=
  modifyForm .zeroPage (.byte b) lsr s

/-- 0x56 `LSR b,X` (R191). -/
def execLsrZpX (b : Byte) (s : State) : Result :=
  modifyForm .zeroPageX (.byte b) lsr s

/-- 0x4E `LSR w` (R191). -/
def execLsrAbs (w : Word) (s : State) : Result :=
  modifyForm .absolute (.word w) lsr s

/-- 0x5E `LSR w,X` (R191). -/
def execLsrAbsX (w : Word) (s : State) : Result :=
  modifyForm .absoluteX (.word w) lsr s

/-- 0x2A `ROL A` (R192). -/
def execRolAcc (s : State) : Result :=
  accumulatorForm rol s

/-- 0x26 `ROL b` (R192). -/
def execRolZp (b : Byte) (s : State) : Result :=
  modifyForm .zeroPage (.byte b) rol s

/-- 0x36 `ROL b,X` (R192). -/
def execRolZpX (b : Byte) (s : State) : Result :=
  modifyForm .zeroPageX (.byte b) rol s

/-- 0x2E `ROL w` (R192). -/
def execRolAbs (w : Word) (s : State) : Result :=
  modifyForm .absolute (.word w) rol s

/-- 0x3E `ROL w,X` (R192). -/
def execRolAbsX (w : Word) (s : State) : Result :=
  modifyForm .absoluteX (.word w) rol s

/-- 0x6A `ROR A` (R193). -/
def execRorAcc (s : State) : Result :=
  accumulatorForm ror s

/-- 0x66 `ROR b` (R193). -/
def execRorZp (b : Byte) (s : State) : Result :=
  modifyForm .zeroPage (.byte b) ror s

/-- 0x76 `ROR b,X` (R193). -/
def execRorZpX (b : Byte) (s : State) : Result :=
  modifyForm .zeroPageX (.byte b) ror s

/-- 0x6E `ROR w` (R193). -/
def execRorAbs (w : Word) (s : State) : Result :=
  modifyForm .absolute (.word w) ror s

/-- 0x7E `ROR w,X` (R193). -/
def execRorAbsX (w : Word) (s : State) : Result :=
  modifyForm .absoluteX (.word w) ror s

end Sys2Proof.Machine
end

