-- ==== Sys2Proof/Machine/StackSystem.lean ====
section
/-! DEFINITION. The meanings of 45_stack_flags_system.md: the stack, flag and system instructions (R220 to R233). -/

namespace Sys2Proof.Machine

/-- The handler of PHA (R220): `push8(A)`. -/
def handlePha (s : State) : State := push8 s.a s

/-- 0x48 `PHA` (R220). -/
def execPha (s : State) : Result :=
  impliedForm handlePha s

/-- The handler of PHP (R221): `push8(P | 0x30)`. -/
def handlePhp (s : State) : State := push8 (pushedStatus s.p) s

/-- 0x08 `PHP` (R221). -/
def execPhp (s : State) : Result :=
  impliedForm handlePhp s

/-- The handler of PLA (R222): `A <- pull8(); setZN(A)`. -/
def handlePla (s : State) : State := ((pull8 s).2.setA (pull8 s).1).setP (setZN (pull8 s).1 s.p)

/-- 0x68 `PLA` (R222). -/
def execPla (s : State) : Result :=
  impliedForm handlePla s

/-- Pulls P (R223), keeping Break and Break2: the handler of PLP and the first half of RTI. -/
def pullStatus (s : State) : State := (pull8 s).2.setP (pulledStatus (pull8 s).1 s.p)

/-- 0x28 `PLP` (R223). -/
def execPlp (s : State) : Result :=
  impliedForm pullStatus s

/-- 0x18 `CLC` (R224). -/
def execClc (s : State) : Result :=
  impliedForm (fun s => s.setP (putFlag s.p .carry false)) s

/-- 0x38 `SEC` (R225). -/
def execSec (s : State) : Result :=
  impliedForm (fun s => s.setP (putFlag s.p .carry true)) s

/-- 0x58 `CLI` (R226). -/
def execCli (s : State) : Result :=
  impliedForm (fun s => s.setP (putFlag s.p .interruptDisable false)) s

/-- 0x78 `SEI` (R227). -/
def execSei (s : State) : Result :=
  impliedForm (fun s => s.setP (putFlag s.p .interruptDisable true)) s

/-- 0xD8 `CLD` (R228). -/
def execCld (s : State) : Result :=
  impliedForm (fun s => s.setP (putFlag s.p .decimal false)) s

/-- 0xF8 `SED` (R229). -/
def execSed (s : State) : Result :=
  impliedForm (fun s => s.setP (putFlag s.p .decimal true)) s

/-- 0xB8 `CLV` (R230). -/
def execClv (s : State) : Result :=
  impliedForm (fun s => s.setP (putFlag s.p .overflow false)) s

/-- 0xEA `NOP` (R231). -/
def execNop (s : State) : Result :=
  impliedForm id s

/-- 0x00 `BRK` (R232): halts with no error; PC ends after its one byte; nothing else changes (decision D9; log 15). -/
def execBrk (s : State) : Result :=
  impliedForm halt s

/-- 0x40 `RTI` (R233): pulls P as PLP does, then PC, with no `+1`. It is tied to no error or interrupt entry
(60_exceptions.md R258). -/
def execRti (s : State) : Result :=
  transferForm (pull16 (pullStatus s)).1 (fun s => (pull16 (pullStatus s)).2) s

end Sys2Proof.Machine
end

