-- ==== Sys2Proof/Machine/Engine.lean ====
section
/-! DEFINITION. The step of the engine (40_engine_and_resolver.md R110, R111), with the parameters of 00_scope.md R5 as
an argument, and the placing of an instruction where the engine fetches its next one. -/

namespace Sys2Proof.Machine

/-- Lines 1 and 2 of the step (R110): the opcode byte at PC is looked up in the catalog, and the operand bytes
its format needs are read after it, modulo 65 536 (log 8, log 22). A byte with no entry, or with a mnemonic that has no
handler, is `UnknownOpcode` (R111). -/
def fetchInstr (cfg : Config) (s : State) : Except StepError Instr :=
  match catalogGet (s.readByte s.pc) with
  | none => .error (.unknownOpcode (s.readByte s.pc))
  | some r =>
    if cfg.implements r.desc.mnemonic then
      .ok (r.shape.build (s.readByte (s.pc + 1)) (s.readByte (s.pc + 2)))
    else .error (.unknownOpcode (s.readByte s.pc))

/-- One step (R110, 70_reset_and_hazards.md R286): one instruction if Running, nothing if Halted. An error of lines 1 and
2 is raised with PC already advanced past the byte (R111, R255; log 6). -/
def engineStep (cfg : Config) (s : State) : Result :=
  match s.runState with
  | .halted => .next s
  | .running =>
    match fetchInstr cfg s with
    | .ok i => exec i s
    | .error e => .next (raise e (s.setPc (s.pc + 1)))

/-- The state with the bytes of an opcode-table word stored at PC and the engine Running, so that the next step
runs that instruction (log 4, log 5). -/
def placeWord (s : State) (nbits w : Nat) : State :=
  (s.writeBytes s.pc (tableBytes nbits w)).setRunState .running

end Sys2Proof.Machine
end

