-- ==== Sys2Proof/Machine/HostOps.lean ====
section
/-! DEFINITION. The host operations (70_reset_and_hazards.md R293): `new`, `load`, `reset`, `step`, `run`,
`load_and_run`. Direct state access (R287) is reading and writing a field of `State` (log 10). -/

namespace Sys2Proof.Machine

/-- `new()` (R280): everything zero, SP at its sentinel, Halted, no fault. -/
def hostNew (cfg : Config) : State :=
  { a := 0x00, x := 0x00, y := 0x00, sp := cfg.spReset, pc := 0x0000, p := 0x00, mem := [],
    runState := .halted, fault := none }

/-- `load(program)` (R281, R282): the size check first, then the copy to `LOAD_BASE`, then the reset vector; a
program that does not fit writes nothing (decision D18; log 21). -/
def hostLoad (program : List Byte) (s : State) : Except HostError State :=
  if imageFits program then .ok ((s.writeBytes loadBase program).writeWord resetVector loadBase)
  else .error .programTooLarge

/-- `reset()` (R283): registers, flags, SP and PC reinitialised, Running, no fault; no memory cell is written
(90_conflicts.md C3). -/
def hostReset (cfg : Config) (s : State) : State :=
  { a := 0x00, x := 0x00, y := 0x00, sp := cfg.spReset, pc := s.readWord resetVector,
    p := cfg.statusReset, mem := s.mem, runState := .running, fault := none }

/-- `step()` (R286). -/
def hostStep (cfg : Config) (s : State) : Result := engineStep cfg s

/-- What `run` reports of a halted core (10_state.md R30): success, or the recorded error. -/
def runResult (s : State) : Except HostError Unit :=
  match s.fault with
  | none => .ok ()
  | some e => .error (.step e)

/-- `run()` (R284, 40_engine_and_resolver.md R131) under fuel: steps until Halted, then the report and the final state;
none while the fuel does not reach a halt (R292; log 9). -/
def hostRun (cfg : Config) : Nat → State → Option (Except HostError Unit × State)
  | 0, s =>
    match s.runState with
    | .halted => some (runResult s, s)
    | .running => none
  | n + 1, s =>
    match s.runState with
    | .halted => some (runResult s, s)
    | .running =>
      match hostStep cfg s with
      | .next t => hostRun cfg n t
      | .fault _ => none
      | .refused _ => none

/-- `load_and_run(program)` (R285) under fuel. -/
def hostLoadAndRun (cfg : Config) (fuel : Nat) (program : List Byte) (s : State) :
    Option (Except HostError Unit × State) :=
  match hostLoad program s with
  | .error e => some (.error e, s)
  | .ok t => hostRun cfg fuel (hostReset cfg t)

end Sys2Proof.Machine
end

