-- ==== Sys2Proof/Safety.lean ====
section
/-! DEFINITION. The terms claims are stated in: what a safe state is, how a run ends, the invariant every step keeps,
what an instruction keeps (its frame), and the spec's own tables of what writes what. -/

namespace Sys2Proof.Machine

/-- The byte registers other than P (10_state.md R20 to R23). No instruction encodes a register number
(R35); the type is for claims only. -/
inductive Reg where
  | a | x | y | sp
  deriving DecidableEq, Repr

/-- The value of a register. -/
def State.reg (s : State) : Reg → Byte
  | .a => s.a
  | .x => s.x
  | .y => s.y
  | .sp => s.sp

/-- A state is safe when no error has been recorded (10_state.md R30). -/
def State.Safe (s : State) : Prop := s.fault = none

/-- A run ended well: Halted by a BRK (70_reset_and_hazards.md R291). -/
def State.EndedWell (s : State) : Prop := s.runState = .halted ∧ s.fault = none

/-- A run ended in error (70_reset_and_hazards.md R291). -/
def State.EndedInError (s : State) : Prop := s.runState = .halted ∧ s.fault ≠ none

/-- The invariant every step keeps: the memory is in its canonical form, a recorded error means the engine is
halted (60_exceptions.md R254), and the unreachable error is not recorded (R252). -/
structure State.Inv (s : State) : Prop where
  memWf : s.mem.wf
  faultHalted : s.fault ≠ none → s.runState = .halted
  noUnsupported : s.fault ≠ some .unsupportedAddressingMode

/-- Every register outside `regs`, every flag outside `flags`, the run state and the fault are as before. -/
structure Keeps (regs : List Reg) (flags : List Flag) (s t : State) : Prop where
  reg : ∀ r, r ∉ regs → t.reg r = s.reg r
  flag : ∀ f, f ∉ flags → t.flag f = s.flag f
  runState : t.runState = s.runState
  fault : t.fault = s.fault

/-- Every byte of memory outside the addresses `out` reads as before. -/
def KeepsMemBut (out : List Word) (s t : State) : Prop := ∀ a, a ∉ out → t.readByte a = s.readByte a

/-- Every byte of memory reads as before. -/
def KeepsMem (s t : State) : Prop := ∀ a, t.readByte a = s.readByte a

/-- The mnemonics that may write a register (10_state.md R20 to R23). -/
def regWriters : Reg → List Mnemonic
  | .a => [.lda, .pla, .txa, .tya, .adc, .sbc, .and, .ora, .eor, .asl, .lsr, .rol, .ror]
  | .x => [.ldx, .tax, .tsx, .inx, .dex]
  | .y => [.ldy, .tay, .iny, .dey]
  | .sp => [.txs, .pha, .php, .pla, .plp, .jsr, .rts, .rti]

/-- The instructions that write Z and N through `setZN` (10_state.md R26). -/
def setZNUsers : List Mnemonic :=
  [.lda, .ldx, .ldy, .tax, .tay, .txa, .tya, .tsx, .pla, .and, .ora, .eor, .adc, .sbc, .inc, .dec,
   .inx, .iny, .dex, .dey, .asl, .lsr, .rol, .ror]

/-- The table of 10_state.md R26: the mnemonics that may write a flag. -/
def flagWriters : Flag → List Mnemonic
  | .carry => [.adc, .sbc, .cmp, .cpx, .cpy, .asl, .lsr, .rol, .ror, .clc, .sec, .plp, .rti]
  | .zero => setZNUsers ++ [.cmp, .cpx, .cpy, .bit, .plp, .rti]
  | .interruptDisable => [.cli, .sei, .plp, .rti]
  | .decimal => [.cld, .sed, .plp, .rti]
  | .break => []
  | .break2 => []
  | .overflow => [.adc, .sbc, .bit, .clv, .plp, .rti]
  | .negative => setZNUsers ++ [.cmp, .cpx, .cpy, .bit, .plp, .rti]

/-- The mnemonics that may write memory (20_memory.md R57, 40_engine_and_resolver.md R133): the stores, the
read-modify-writes and the pushes. -/
def memWriters : List Mnemonic :=
  [.sta, .stx, .sty, .inc, .dec, .asl, .lsr, .rol, .ror, .pha, .php, .jsr]

/-- The control transfers (40_engine_and_resolver.md R113): what may leave PC elsewhere than at `pc_next`. -/
def controlTransfers : List Mnemonic :=
  [.jmp, .jsr, .rts, .rti, .bcc, .bcs, .beq, .bne, .bmi, .bpl, .bvc, .bvs]

end Sys2Proof.Machine
end

