-- ==== Sys2Proof/Certificates/Slice0/Obligations.lean ====
section
/-! DEFINITION. The statements for the provers. Each docstring names the rules of spec/ it formalises. Where a rule
is marked in spec/ as the spec's own decision (D<n> of 92_eei_decisions.md) or derivation, the statement is of
basis "derived" and its docstring names the log entry. Rules of files 41 to 45 that spec/ marks "from general knowledge,
not in source" (log 26) are numbered rules of spec/ all the same. -/

namespace Sys2Proof.Claims

open Sys2Proof.Machine

/-- Z is set iff `v` is 0, and N is bit 7 of `v` (10_state.md R27). -/
def ZN (v : Byte) (t : State) : Prop :=
  (t.flag .zero = true ↔ v = 0) ∧ t.flag .negative = v.getLsbD 7

/-- `i` is encoded by `bytes`, and from `s` it completes in a next state that meets `post`. -/
def Runs (i : Instr) (bytes : List Byte) (s : State) (post : State → Prop) : Prop :=
  encode i = bytes ∧ ∃ t, exec i s = .next t ∧ post t

/-- `Runs`, with PC at `pc_next` (40_engine_and_resolver.md R113). -/
def RunsOn (i : Instr) (bytes : List Byte) (s : State) (post : State → Prop) : Prop :=
  Runs i bytes s fun t => t.pc = s.pc + BitVec.ofNat 16 bytes.length ∧ post t

/-- Register `r` gets `v`, Z and N are set from it, and nothing else changes. -/
def SetsReg (r : Reg) (i : Instr) (bytes : List Byte) (v : Byte) (s : State) : Prop :=
  RunsOn i bytes s fun t =>
    t.reg r = v ∧ ZN v t ∧ Keeps [r] [.zero, .negative] s t ∧ KeepsMem s t

/-- The byte at `ea` gets `v`, and nothing else changes. -/
def Stores (i : Instr) (bytes : List Byte) (ea : Word) (v : Byte) (s : State) : Prop :=
  RunsOn i bytes s fun t => t.readByte ea = v ∧ Keeps [] [] s t ∧ KeepsMemBut [ea] s t

/-- The byte at `ea` gets `v`, Z and N are set from it, and nothing else changes. -/
def Modifies (i : Instr) (bytes : List Byte) (ea : Word) (v : Byte) (s : State) : Prop :=
  RunsOn i bytes s fun t =>
    t.readByte ea = v ∧ ZN v t ∧ Keeps [] [.zero, .negative] s t ∧ KeepsMemBut [ea] s t

/-- A gets the number `n` modulo 256, C gets `c`, Z and N are set from A, and nothing else changes. -/
def ShiftsA (i : Instr) (bytes : List Byte) (n : Nat) (c : Bool) (s : State) : Prop :=
  RunsOn i bytes s fun t =>
    t.a.toNat = n % 256 ∧ t.flag .carry = c ∧ ZN t.a t ∧
    Keeps [.a] [.carry, .zero, .negative] s t ∧ KeepsMem s t

/-- The byte at `ea` gets the number `n` modulo 256, C gets `c`, Z and N are set from the byte, and nothing else
changes. -/
def ShiftsMem (i : Instr) (bytes : List Byte) (ea : Word) (n : Nat) (c : Bool) (s : State) : Prop :=
  RunsOn i bytes s fun t =>
    (t.readByte ea).toNat = n % 256 ∧ t.flag .carry = c ∧ ZN (t.readByte ea) t ∧
    Keeps [] [.carry, .zero, .negative] s t ∧ KeepsMemBut [ea] s t

/-- ADC of the operand `m` (42_arithmetic_logic.md R160). -/
def Adds (i : Instr) (bytes : List Byte) (m : Byte) (s : State) : Prop :=
  RunsOn i bytes s fun t =>
    t.a.toNat = (s.a.toNat + m.toNat + (s.flag .carry).toNat) % 256 ∧
    (t.flag .carry = true ↔ s.a.toNat + m.toNat + (s.flag .carry).toNat > 255) ∧
    (t.flag .overflow = true ↔ s.a.getLsbD 7 = m.getLsbD 7 ∧ t.a.getLsbD 7 ≠ s.a.getLsbD 7) ∧
    (t.flag .overflow = true ↔
      s.a.toInt + m.toInt + (s.flag .carry).toNat < -128 ∨
      127 < s.a.toInt + m.toInt + (s.flag .carry).toNat) ∧
    ZN t.a t ∧ Keeps [.a] [.carry, .overflow, .zero, .negative] s t ∧ KeepsMem s t

/-- SBC of the operand `m` (42_arithmetic_logic.md R161). -/
def Subtracts (i : Instr) (bytes : List Byte) (m : Byte) (s : State) : Prop :=
  RunsOn i bytes s fun t =>
    (t.a.toNat : Int) = ((s.a.toNat : Int) - m.toNat - (1 - (s.flag .carry).toNat)) % 256 ∧
    (t.flag .carry = true ↔ (m.toNat : Int) + (1 - (s.flag .carry).toNat) ≤ s.a.toNat) ∧
    (t.flag .overflow = true ↔ s.a.getLsbD 7 ≠ m.getLsbD 7 ∧ t.a.getLsbD 7 ≠ s.a.getLsbD 7) ∧
    (t.flag .overflow = true ↔
      s.a.toInt - m.toInt - (1 - (s.flag .carry).toNat) < -128 ∨
      127 < s.a.toInt - m.toInt - (1 - (s.flag .carry).toNat)) ∧
    ZN t.a t ∧ Keeps [.a] [.carry, .overflow, .zero, .negative] s t ∧ KeepsMem s t

/-- A compare of the register value `r` with the operand `m` (42_arithmetic_logic.md R165). -/
def Compares (i : Instr) (bytes : List Byte) (r m : Byte) (s : State) : Prop :=
  RunsOn i bytes s fun t =>
    (t.flag .carry = true ↔ m.toNat ≤ r.toNat) ∧ (t.flag .zero = true ↔ r = m) ∧
    t.flag .negative = (r - m).getLsbD 7 ∧
    Keeps [] [.carry, .zero, .negative] s t ∧ KeepsMem s t

/-- BIT of the operand `m` (42_arithmetic_logic.md R168). -/
def Tests (i : Instr) (bytes : List Byte) (m : Byte) (s : State) : Prop :=
  RunsOn i bytes s fun t =>
    (t.flag .zero = true ↔ s.a &&& m = 0) ∧ t.flag .negative = m.getLsbD 7 ∧
    t.flag .overflow = m.getLsbD 6 ∧
    Keeps [] [.zero, .negative, .overflow] s t ∧ KeepsMem s t

/-- PC is `target` exactly, and nothing else changes. -/
def Jumps (i : Instr) (bytes : List Byte) (target : Word) (s : State) : Prop :=
  Runs i bytes s fun t => t.pc = target ∧ Keeps [] [] s t ∧ KeepsMem s t

/-- A branch with the offset `off` (44_control_transfer.md R204): PC is `pc_next`, moved by the signed offset modulo
65 536 when the condition holds, and nothing else changes. -/
def Branches (i : Instr) (bytes : List Byte) (cond : Prop) (off : Byte) (s : State) : Prop :=
  Runs i bytes s fun t =>
    (cond → (t.pc.toNat : Int) = ((s.pc.toNat : Int) + 2 + off.toInt) % 65536) ∧
    (¬cond → (t.pc.toNat : Int) = ((s.pc.toNat : Int) + 2) % 65536) ∧
    Keeps [] [] s t ∧ KeepsMem s t

/-- The byte `v` is pushed (40_engine_and_resolver.md R127), and nothing else changes. -/
def Pushes (i : Instr) (bytes : List Byte) (v : Byte) (s : State) : Prop :=
  RunsOn i bytes s fun t =>
    t.readByte (stackAddr s.sp) = v ∧ t.sp = s.sp - 1 ∧
    Keeps [.sp] [] s t ∧ KeepsMemBut [stackAddr s.sp] s t

/-- The flag `f` gets `b`, and nothing else changes. -/
def SetsFlag (i : Instr) (bytes : List Byte) (f : Flag) (b : Bool) (s : State) : Prop :=
  RunsOn i bytes s fun t => t.flag f = b ∧ Keeps [] [f] s t ∧ KeepsMem s t

/-- The six flags that a pulled status byte loads come from `v`; Break and Break2 stay
(45_stack_flags_system.md R223). -/
def PullsFlags (v : Byte) (s t : State) : Prop :=
  t.flag .carry = v.getLsbD 0 ∧ t.flag .zero = v.getLsbD 1 ∧
  t.flag .interruptDisable = v.getLsbD 2 ∧ t.flag .decimal = v.getLsbD 3 ∧
  t.flag .overflow = v.getLsbD 6 ∧ t.flag .negative = v.getLsbD 7 ∧
  t.flag .break = s.flag .break ∧ t.flag .break2 = s.flag .break2

/-- Runs one instruction `n` times over. -/
def repeatExec (i : Instr) : Nat → State → Option State
  | 0, s => some s
  | n + 1, s =>
    match exec i s with
    | .next t => repeatExec i n t
    | .fault _ => none
    | .refused _ => none

/-- The 105 bytes of 30_encoding.md R91. -/
def illegalBytes : List Byte :=
  [0x02, 0x03, 0x04, 0x07, 0x0B, 0x0C, 0x0F, 0x12, 0x13, 0x14, 0x17, 0x1A, 0x1B, 0x1C, 0x1F,
   0x22, 0x23, 0x27, 0x2B, 0x2F, 0x32, 0x33, 0x34, 0x37, 0x3A, 0x3B, 0x3C, 0x3F, 0x42, 0x43,
   0x44, 0x47, 0x4B, 0x4F, 0x52, 0x53, 0x54, 0x57, 0x5A, 0x5B, 0x5C, 0x5F, 0x62, 0x63, 0x64] ++
  [0x67, 0x6B, 0x6F, 0x72, 0x73, 0x74, 0x77, 0x7A, 0x7B, 0x7C, 0x7F, 0x80, 0x82, 0x83, 0x87,
   0x89, 0x8B, 0x8F, 0x92, 0x93, 0x97, 0x9B, 0x9C, 0x9E, 0x9F, 0xA3, 0xA7, 0xAB, 0xAF, 0xB2] ++
  [0xB3, 0xB7, 0xBB, 0xBF, 0xC2, 0xC3, 0xC7, 0xCB, 0xCF, 0xD2, 0xD3, 0xD4, 0xD7, 0xDA, 0xDB,
   0xDC, 0xDF, 0xE2, 0xE3, 0xE7, 0xEB, 0xEF, 0xF2, 0xF3, 0xF4, 0xF7, 0xFA, 0xFB, 0xFC, 0xFF]

/-- The flags an instruction other than PHP can depend on: the other four are stored only (10_state.md R25). -/
def readFlags : List Flag := [.carry, .zero, .overflow, .negative]

end Sys2Proof.Claims

open Sys2Proof Sys2Proof.Machine Sys2Proof.Claims

/-! ### Encoding -/

/-- Fifteen words written out from 30_encoding.md R80, R84 and R90, at least one of each family of files 41 to 45, decode;
two byte strings are refused. That 0x02 has no instruction is R82 and R91 with the spec's decision D5 (log 13). That a
string which ends inside an instruction is refused as truncated is the model's own choice and no rule of the spec
(log 28). -/
def Obligations.SpecWordsDecode : Prop :=
  decode [0xA9, 0xC0] = .instr (.ldaImm 0xC0) [] ∧
  decode [0xB6, 0xFF] = .instr (.ldxZpY 0xFF) [] ∧
  decode [0x8D, 0x34, 0x12] = .instr (.staAbs 0x1234) [] ∧
  decode [0xAA] = .instr .tax [] ∧
  decode [0x71, 0x40] = .instr (.adcIndY 0x40) [] ∧
  decode [0x2C, 0x00, 0x02] = .instr (.bitAbs 0x0200) [] ∧
  decode [0xFE, 0x00, 0x02] = .instr (.incAbsX 0x0200) [] ∧
  decode [0x0A] = .instr .aslAcc [] ∧
  decode [0x7E, 0xFF, 0x02] = .instr (.rorAbsX 0x02FF) [] ∧
  decode [0x6C, 0xFF, 0x02] = .instr (.jmpInd 0x02FF) [] ∧
  decode [0x20, 0x10, 0x80] = .instr (.jsr 0x8010) [] ∧
  decode [0xD0, 0xFB] = .instr (.bne 0xFB) [] ∧
  decode [0x08] = .instr .php [] ∧
  decode [0x78] = .instr .sei [] ∧
  decode [0x00] = .instr .brk [] ∧
  decode [0x02] = .bad (.unknownOpcode 0x02) ∧
  decode [0xAD, 0x34] = .bad .truncated

/-- Every instruction, at every operand value, is what its encoding decodes to, whatever follows it
(30_encoding.md R80, R82, R90, R92). -/
def Obligations.DecodeEncodeRoundTrip : Prop :=
  ∀ (i : Instr) (rest : List Byte), decode (encode i ++ rest) = .instr i rest

/-- The other direction: a byte string the decoder accepts begins with the encoding of what it answers, so
each encoding has one meaning (30_encoding.md R80, R82, R83). -/
def Obligations.EncodeDecodeRoundTrip : Prop :=
  ∀ (bytes rest : List Byte) (i : Instr), decode bytes = .instr i rest → encode i ++ rest = bytes

/-- The catalog invariant and the lookup contract of 30_encoding.md R83: 151 entries with 151 distinct codes, a
check that refuses exactly the tables with a duplicate, and `get`, which finds the one row of a code and
fails only where no row has the code. -/
def Obligations.CatalogCodesUnique : Prop :=
  catalog.length = 151 ∧
  codesWellFormed (catalog.map fun r => r.desc.code) = true ∧
  (∀ codes : List Byte, codesWellFormed codes = true ↔ codes.Nodup) ∧
  (∀ (code : Byte) (r : Row), catalogGet code = some r ↔ r ∈ catalog ∧ r.desc.code = code) ∧
  (∀ code : Byte, catalogGet code = none ↔ ∀ r ∈ catalog, r.desc.code ≠ code)

/-- The bytes with no catalog entry are exactly the 105 of 30_encoding.md R91, and each is refused by name (the spec's
decision D5; log 13). -/
def Obligations.IllegalBytesRefused : Prop :=
  illegalBytes.length = 105 ∧
  (∀ code : Byte, catalogGet code = none ↔ code ∈ illegalBytes) ∧
  (∀ (code : Byte) (rest : List Byte),
    decode (code :: rest) = .bad (.unknownOpcode code) ↔ code ∈ illegalBytes)

/-! ### The step -/

/-- When the bytes at PC decode to an instruction whose handler exists, a step is that instruction's meaning at
that state (40_engine_and_resolver.md R110); nothing is added around it. -/
def Obligations.StepRunsDecodedInstruction : Prop :=
  ∀ (cfg : Config) (s : State) (i : Instr) (rest : List Byte),
    s.runState = .running → decode (s.bytesAt s.pc 3) = .instr i rest →
    i.wellFormed cfg = true →
    engineStep cfg s = exec i s ∧ (cfg = Config.default → step s = exec i s)

/-- A byte with no catalog entry, or whose mnemonic has no handler, halts the engine with the byte recorded and PC
past it; nothing else changes (40_engine_and_resolver.md R111, 60_exceptions.md R251, R254, R255; the spec's
decisions D14, D21 and its derivations in R111 and R255; log 3, log 6, log 20). -/
def Obligations.UnknownOpcodeHaltsPrecisely : Prop :=
  ∀ (cfg : Config) (s : State), s.runState = .running →
    (∀ r, catalogGet (s.readByte s.pc) = some r → cfg.implements r.desc.mnemonic = false) →
    engineStep cfg s =
      .next { s with pc := s.pc + 1, runState := .halted,
                     fault := some (.unknownOpcode (s.readByte s.pc)) }

/-- A step of a halted engine changes nothing (70_reset_and_hazards.md R286, 60_exceptions.md R258; the spec's decision
D15; log 20). -/
def Obligations.HaltedStepChangesNothing : Prop :=
  ∀ (cfg : Config) (s : State), s.runState = .halted → hostStep cfg s = .next s

/-- Every step of every state answers a next state: no meaning stops, because no handler can raise an error and
every error of a step is recorded in the state (60_exceptions.md R250, R254; log 6, log 27). -/
def Obligations.EveryStepAnswersNext : Prop :=
  ∀ (cfg : Config) (s : State), ∃ t, engineStep cfg s = .next t

/-- At the default configuration a step of a running engine halts it in two ways only (40_engine_and_resolver.md R131): a
BRK executed, which leaves the recorded error as it was; or `UnknownOpcode` was raised (R111). That the bytes which
raise it are exactly those of 30_encoding.md R91 rests on the spec's decision D5 (log 13) and on `IMPLEMENTED_SET` being
all 56 mnemonics, the model's choice of the spec's default (D21; log 3). From a state that meets `State.Inv` the error
after a BRK is none, which is R131's `fault = None`. -/
def Obligations.EngineHaltsOnlyByBrkOrRaise : Prop :=
  ∀ s t : State, s.runState = .running → step s = .next t → t.runState = .halted →
    (s.readByte s.pc = 0x00 ∧ t.fault = s.fault) ∨
    (s.readByte s.pc ∈ illegalBytes ∧ t.fault = some (.unknownOpcode (s.readByte s.pc)))

/-- The resolver fails for `NoAddress` alone, and no step of any state records `UnsupportedAddressingMode`
(60_exceptions.md R252). -/
def Obligations.UnsupportedAddressingModeUnreachable : Prop :=
  (∀ (tag : AddressMode) (pcOp : Word) (opnd : Operand) (s : State),
    resolve tag pcOp opnd s = .error .unsupportedAddressingMode ↔ tag = .noAddress) ∧
  (∀ (cfg : Config) (s t : State), engineStep cfg s = .next t →
    t.fault = some .unsupportedAddressingMode → s.fault = some .unsupportedAddressingMode)

/-! ### The invariant -/

/-- From every state that meets the invariant, a step gives a state that meets it: the memory keeps its canonical
form, a recorded error means Halted, and the unreachable error is not recorded. -/
def Obligations.StepKeepsInvariant : Prop :=
  ∀ (cfg : Config) (s t : State), s.Inv → engineStep cfg s = .next t → t.Inv

/-- The state after reset meets the invariant. -/
def Obligations.ResetMeetsInvariant : Prop := State.reset.Inv

/-! ### Reset and the host operations -/

/-- What `new` and then `reset` leave, for every value of the parameters, and the values of `State.reset`
(10_state.md R32, 70_reset_and_hazards.md R280). The values 0xFD and 0x24 of SP and P are the model's choice of
the spec's defaults (log 1, log 2), and Halted after `new` is the spec's decision D15 (log 20). -/
def Obligations.ResetStateValues : Prop :=
  (∀ cfg : Config,
    (hostNew cfg).a = 0 ∧ (hostNew cfg).x = 0 ∧ (hostNew cfg).y = 0 ∧ (hostNew cfg).p = 0 ∧
    (hostNew cfg).pc = 0 ∧ (hostNew cfg).sp = cfg.spReset ∧ (∀ a, (hostNew cfg).readByte a = 0) ∧
    (hostNew cfg).runState = .halted ∧ (hostNew cfg).fault = none) ∧
  State.reset = hostReset Config.default (hostNew Config.default) ∧
  State.reset.a = 0 ∧ State.reset.x = 0 ∧ State.reset.y = 0 ∧ State.reset.sp = 0xFD ∧
  State.reset.p = 0x24 ∧ State.reset.pc = 0 ∧ (∀ a, State.reset.readByte a = 0) ∧
  State.reset.runState = .running ∧ State.reset.fault = none

/-- `reset` reinitialises the registers, reads PC from the vector as it stands, sets Running, clears the error and
writes no memory cell (70_reset_and_hazards.md R283, 90_conflicts.md C3; clearing the error is the spec's
decision D15; log 20). -/
def Obligations.HostResetKeepsMemory : Prop :=
  ∀ (cfg : Config) (s : State),
    (hostReset cfg s).a = 0 ∧ (hostReset cfg s).x = 0 ∧ (hostReset cfg s).y = 0 ∧
    (hostReset cfg s).sp = cfg.spReset ∧ (hostReset cfg s).p = cfg.statusReset ∧
    (hostReset cfg s).pc.toNat = (s.readByte 0xFFFC).toNat + 256 * (s.readByte 0xFFFD).toNat ∧
    (hostReset cfg s).runState = .running ∧ (hostReset cfg s).fault = none ∧
    KeepsMem s (hostReset cfg s)

/-- `load` of a program that fits copies it to 0x8000 and writes 0x8000 at the reset vector, changing nothing else;
of one that does not fit it answers `ProgramTooLarge` (70_reset_and_hazards.md R281, R282; the order of the checks
and writes is the spec's decision D18; log 21). -/
def Obligations.LoadCopiesImageAndVector : Prop :=
  ∀ (program : List Byte) (s : State),
    (program.length ≤ 0x8000 →
      ∃ t, hostLoad program s = .ok t ∧
        (∀ (k : Nat) (hk : k < program.length), k ≠ 0x7FFC → k ≠ 0x7FFD →
          t.readByte (BitVec.ofNat 16 (0x8000 + k)) = program[k]) ∧
        t.readByte 0xFFFC = 0x00 ∧ t.readByte 0xFFFD = 0x80 ∧
        (∀ a : Word, a ≠ 0xFFFC → a ≠ 0xFFFD →
          (a.toNat < 0x8000 ∨ 0x8000 + program.length ≤ a.toNat) →
          t.readByte a = s.readByte a) ∧
        { t with mem := s.mem } = s) ∧
    (0x8000 < program.length → hostLoad program s = .error .programTooLarge)

/-- "`load` followed by `reset` always sets the program counter to 0x8000", independent of program length
(70_reset_and_hazards.md R283; 95_test_vectors.md E8). -/
def Obligations.LoadThenResetStartsAtLoadBase : Prop :=
  ∀ (cfg : Config) (program : List Byte) (s t : State),
    hostLoad program s = .ok t → (hostReset cfg t).pc = 0x8000

/-- A run that returns has halted, it reports success exactly when no error is recorded and otherwise the recorded
error (10_state.md R30, 70_reset_and_hazards.md R284), and more fuel gives the same result (the fuel is the
model's; log 9). -/
def Obligations.RunReturnsHaltedWithReport : Prop :=
  ∀ (cfg : Config) (n k : Nat) (s t : State) (r : Except HostError Unit),
    hostRun cfg n s = some (r, t) →
    t.runState = .halted ∧ (r = .ok () ↔ t.fault = none) ∧
    (∀ e, r = .error (.step e) ↔ t.fault = some e) ∧ r ≠ .error .programTooLarge ∧
    hostRun cfg (n + k) s = some (r, t)

/-! ### Memory and the resolver -/

/-- `MemWrite(addr, 1, v)` sets one cell and changes no other cell and no other state element (20_memory.md R52). -/
def Obligations.WriteByteChangesOneCell : Prop :=
  ∀ (s : State) (addr : Word) (v : Byte),
    (s.writeByte addr v).readByte addr = v ∧ KeepsMemBut [addr] s (s.writeByte addr v) ∧
    { s.writeByte addr v with mem := s.mem } = s

/-- `MemRead(addr, 2)` is little-endian and modulo 65 536 (20_memory.md R53). -/
def Obligations.ReadWordLittleEndian : Prop :=
  ∀ (s : State) (addr : Word),
    (s.readWord addr).toNat = (s.readByte addr).toNat + 256 * (s.readByte (addr + 1)).toNat ∧
    (s.readWord 0xFFFF).toNat = (s.readByte 0xFFFF).toNat + 256 * (s.readByte 0x0000).toNat

/-- `MemWrite(addr, 2, w)` stores the low byte at `addr`, the high byte at `addr +16 1`, and nothing else, and reads
back as `w` (20_memory.md R54, R55). -/
def Obligations.WriteWordLittleEndian : Prop :=
  ∀ (s : State) (addr w : Word),
    ((s.writeWord addr w).readByte addr).toNat = w.toNat % 256 ∧
    ((s.writeWord addr w).readByte (addr + 1)).toNat = w.toNat / 256 ∧
    (s.writeWord addr w).readWord addr = w ∧
    KeepsMemBut [addr, addr + 1] s (s.writeWord addr w) ∧
    { s.writeWord addr w with mem := s.mem } = s

/-- `ZpWord(p)` takes its high byte from page 0 too, and differs from the word read exactly when `p` is 0xFF
(40_engine_and_resolver.md R121). -/
def Obligations.ZpWordWrapsInPageZero : Prop :=
  (∀ (s : State) (p : Byte),
    (s.zpWord p).toNat =
      (s.readByte (BitVec.ofNat 16 p.toNat)).toNat +
      256 * (s.readByte (BitVec.ofNat 16 ((p.toNat + 1) % 256))).toNat) ∧
  (∀ (s : State) (p : Byte), p ≠ 0xFF → s.zpWord p = s.readWord (zext16 p)) ∧
  (∃ s : State, s.zpWord 0xFF ≠ s.readWord (zext16 0xFF))

/-- The effective address of each addressing mode, as a number (40_engine_and_resolver.md R114 to R120, R122,
R123); no store or read-modify-write has an Immediate form (R114), and only LDX and STX have the form
ZeroPageY (R117). -/
def Obligations.ResolverEffectiveAddresses : Prop :=
  (∀ (pcOp : Word) (b : Byte) (w : Word) (s : State),
    resolve .immediate pcOp (.byte b) s = .ok pcOp ∧
    (∃ ea, resolve .zeroPage pcOp (.byte b) s = .ok ea ∧ ea.toNat = b.toNat) ∧
    (∃ ea, resolve .zeroPageX pcOp (.byte b) s = .ok ea ∧
      ea.toNat = (b.toNat + s.x.toNat) % 256) ∧
    (∃ ea, resolve .zeroPageY pcOp (.byte b) s = .ok ea ∧
      ea.toNat = (b.toNat + s.y.toNat) % 256) ∧
    resolve .absolute pcOp (.word w) s = .ok w ∧
    (∃ ea, resolve .absoluteX pcOp (.word w) s = .ok ea ∧
      ea.toNat = (w.toNat + s.x.toNat) % 65536) ∧
    (∃ ea, resolve .absoluteY pcOp (.word w) s = .ok ea ∧
      ea.toNat = (w.toNat + s.y.toNat) % 65536) ∧
    resolve .indirectX pcOp (.byte b) s = .ok (s.zpWord (b + s.x)) ∧
    (∃ ea, resolve .indirectY pcOp (.byte b) s = .ok ea ∧
      ea.toNat = ((s.zpWord b).toNat + s.y.toNat) % 65536)) ∧
  (∀ r ∈ catalog, r.desc.form = .immediate → r.desc.mnemonic ∉ memWriters) ∧
  (∀ r ∈ catalog, r.desc.form = .zeroPageY →
    r.desc.mnemonic = .ldx ∨ r.desc.mnemonic = .stx)

/-- Push writes at 0x0100 + SP and then decrements, pull increments and then reads, modulo 256, inside the
stack page (40_engine_and_resolver.md R127, R128, 10_state.md R23; the spec's decision D10; log 16). -/
def Obligations.StackPrimitivesStayInStackPage : Prop :=
  ∀ (v : Byte) (s : State),
    (stackAddr s.sp).toNat = 0x0100 + s.sp.toNat ∧
    (push8 v s).readByte (stackAddr s.sp) = v ∧
    KeepsMemBut [stackAddr s.sp] s (push8 v s) ∧ Keeps [.sp] [] s (push8 v s) ∧
    (push8 v s).sp.toNat = (s.sp.toNat + 255) % 256 ∧ (push8 v s).pc = s.pc ∧
    (pull8 s).1 = s.readByte (BitVec.ofNat 16 (0x0100 + (s.sp.toNat + 1) % 256)) ∧
    KeepsMem s (pull8 s).2 ∧ Keeps [.sp] [] s (pull8 s).2 ∧
    (pull8 s).2.sp.toNat = (s.sp.toNat + 1) % 256 ∧ (pull8 s).2.pc = s.pc

/-- `pull16()` after `push16(w)` returns `w` and restores SP, for every SP (40_engine_and_resolver.md R130, marked
there as the spec's derivation; log 16). -/
def Obligations.Pull16UndoesPush16 : Prop :=
  ∀ (w : Word) (s : State),
    (pull16 (push16 w s)).1 = w ∧ (pull16 (push16 w s)).2.sp = s.sp ∧
    Keeps [] [] s (pull16 (push16 w s)).2

/-! ### The status byte -/

/-- `setZN(v)` sets Z iff `v` is 0 and N iff bit 7 of `v` is set, clears each otherwise, and writes no other flag
(10_state.md R27). -/
def Obligations.SetZNWritesZeroAndNegative : Prop :=
  ∀ v p : Byte,
    (testFlag (setZN v p) .zero = true ↔ v = 0) ∧
    testFlag (setZN v p) .negative = v.getLsbD 7 ∧
    ∀ f, f ≠ .zero → f ≠ .negative → testFlag (setZN v p) f = testFlag p f

/-- The byte value of P from its flags (10_state.md R25; the bit positions are the spec's decision D1; log 11), and
`set` and `clear` touch one bit (R26). -/
def Obligations.StatusByteLayout : Prop :=
  (∀ p : Byte,
    p.toNat = (testFlag p .negative).toNat * 128 + (testFlag p .overflow).toNat * 64 +
      (testFlag p .break2).toNat * 32 + (testFlag p .break).toNat * 16 +
      (testFlag p .decimal).toNat * 8 + (testFlag p .interruptDisable).toNat * 4 +
      (testFlag p .zero).toNat * 2 + (testFlag p .carry).toNat) ∧
  (∀ (p : Byte) (f g : Flag) (b : Bool),
    testFlag (putFlag p f b) f = b ∧ (g ≠ f → testFlag (putFlag p f b) g = testFlag p g))

/-! ### Loads, stores and transfers -/

/-- LDA in its eight forms (41_load_store_transfer.md R140). -/
def Obligations.LdaLoadsOperand : Prop :=
  ∀ (b : Byte) (w : Word) (s : State),
    SetsReg .a (.ldaImm b) [0xA9, b] b s ∧
    SetsReg .a (.ldaZp b) [0xA5, b] (s.readByte (eaZeroPage b)) s ∧
    SetsReg .a (.ldaZpX b) [0xB5, b] (s.readByte (eaZeroPageX b s)) s ∧
    SetsReg .a (.ldaAbs w) [0xAD, loByte w, hiByte w] (s.readByte w) s ∧
    SetsReg .a (.ldaAbsX w) [0xBD, loByte w, hiByte w] (s.readByte (eaAbsoluteX w s)) s ∧
    SetsReg .a (.ldaAbsY w) [0xB9, loByte w, hiByte w] (s.readByte (eaAbsoluteY w s)) s ∧
    SetsReg .a (.ldaIndX b) [0xA1, b] (s.readByte (eaIndirectX b s)) s ∧
    SetsReg .a (.ldaIndY b) [0xB1, b] (s.readByte (eaIndirectY b s)) s

/-- LDX and LDY in their five forms each (41_load_store_transfer.md R141, R142). -/
def Obligations.LdxLdyLoadOperand : Prop :=
  ∀ (b : Byte) (w : Word) (s : State),
    SetsReg .x (.ldxImm b) [0xA2, b] b s ∧
    SetsReg .x (.ldxZp b) [0xA6, b] (s.readByte (eaZeroPage b)) s ∧
    SetsReg .x (.ldxZpY b) [0xB6, b] (s.readByte (eaZeroPageY b s)) s ∧
    SetsReg .x (.ldxAbs w) [0xAE, loByte w, hiByte w] (s.readByte w) s ∧
    SetsReg .x (.ldxAbsY w) [0xBE, loByte w, hiByte w] (s.readByte (eaAbsoluteY w s)) s ∧
    SetsReg .y (.ldyImm b) [0xA0, b] b s ∧
    SetsReg .y (.ldyZp b) [0xA4, b] (s.readByte (eaZeroPage b)) s ∧
    SetsReg .y (.ldyZpX b) [0xB4, b] (s.readByte (eaZeroPageX b s)) s ∧
    SetsReg .y (.ldyAbs w) [0xAC, loByte w, hiByte w] (s.readByte w) s ∧
    SetsReg .y (.ldyAbsX w) [0xBC, loByte w, hiByte w] (s.readByte (eaAbsoluteX w s)) s

/-- STA, STX and STY in all their forms: one byte is stored at the effective address, no flag and no register
changes; STA has no Immediate form (41_load_store_transfer.md R143, R144, R145). -/
def Obligations.StoresWriteOneByte : Prop :=
  ∀ (b : Byte) (w : Word) (s : State),
    Stores (.staZp b) [0x85, b] (eaZeroPage b) s.a s ∧
    Stores (.staZpX b) [0x95, b] (eaZeroPageX b s) s.a s ∧
    Stores (.staAbs w) [0x8D, loByte w, hiByte w] w s.a s ∧
    Stores (.staAbsX w) [0x9D, loByte w, hiByte w] (eaAbsoluteX w s) s.a s ∧
    Stores (.staAbsY w) [0x99, loByte w, hiByte w] (eaAbsoluteY w s) s.a s ∧
    Stores (.staIndX b) [0x81, b] (eaIndirectX b s) s.a s ∧
    Stores (.staIndY b) [0x91, b] (eaIndirectY b s) s.a s ∧
    Stores (.stxZp b) [0x86, b] (eaZeroPage b) s.x s ∧
    Stores (.stxZpY b) [0x96, b] (eaZeroPageY b s) s.x s ∧
    Stores (.stxAbs w) [0x8E, loByte w, hiByte w] w s.x s ∧
    Stores (.styZp b) [0x84, b] (eaZeroPage b) s.y s ∧
    Stores (.styZpX b) [0x94, b] (eaZeroPageX b s) s.y s ∧
    Stores (.styAbs w) [0x8C, loByte w, hiByte w] w s.y s ∧
    ∀ r ∈ catalog, r.desc.mnemonic = .sta → r.desc.form ≠ .immediate

/-- The six register transfers; TXS is the one that writes no flag (41_load_store_transfer.md R146 to R151). -/
def Obligations.TransfersCopyRegisters : Prop :=
  ∀ s : State,
    SetsReg .x .tax [0xAA] s.a s ∧ SetsReg .y .tay [0xA8] s.a s ∧
    SetsReg .a .txa [0x8A] s.x s ∧ SetsReg .a .tya [0x98] s.y s ∧
    SetsReg .x .tsx [0xBA] s.sp s ∧
    RunsOn .txs [0x9A] s fun t => t.sp = s.x ∧ Keeps [.sp] [] s t ∧ KeepsMem s t

/-! ### Arithmetic and logic -/

/-- ADC in its eight forms, for every value of the Decimal flag (42_arithmetic_logic.md R160; that D is not read is
the source's binary definition, which the spec's decision D11 keeps; log 17). -/
def Obligations.AdcAddsWithCarry : Prop :=
  ∀ (b : Byte) (w : Word) (s : State),
    Adds (.adcImm b) [0x69, b] b s ∧
    Adds (.adcZp b) [0x65, b] (s.readByte (eaZeroPage b)) s ∧
    Adds (.adcZpX b) [0x75, b] (s.readByte (eaZeroPageX b s)) s ∧
    Adds (.adcAbs w) [0x6D, loByte w, hiByte w] (s.readByte w) s ∧
    Adds (.adcAbsX w) [0x7D, loByte w, hiByte w] (s.readByte (eaAbsoluteX w s)) s ∧
    Adds (.adcAbsY w) [0x79, loByte w, hiByte w] (s.readByte (eaAbsoluteY w s)) s ∧
    Adds (.adcIndX b) [0x61, b] (s.readByte (eaIndirectX b s)) s ∧
    Adds (.adcIndY b) [0x71, b] (s.readByte (eaIndirectY b s)) s

/-- SBC in its eight forms (42_arithmetic_logic.md R161; D is not read, by the spec's decision D11; log 17). -/
def Obligations.SbcSubtractsWithBorrow : Prop :=
  ∀ (b : Byte) (w : Word) (s : State),
    Subtracts (.sbcImm b) [0xE9, b] b s ∧
    Subtracts (.sbcZp b) [0xE5, b] (s.readByte (eaZeroPage b)) s ∧
    Subtracts (.sbcZpX b) [0xF5, b] (s.readByte (eaZeroPageX b s)) s ∧
    Subtracts (.sbcAbs w) [0xED, loByte w, hiByte w] (s.readByte w) s ∧
    Subtracts (.sbcAbsX w) [0xFD, loByte w, hiByte w] (s.readByte (eaAbsoluteX w s)) s ∧
    Subtracts (.sbcAbsY w) [0xF9, loByte w, hiByte w] (s.readByte (eaAbsoluteY w s)) s ∧
    Subtracts (.sbcIndX b) [0xE1, b] (s.readByte (eaIndirectX b s)) s ∧
    Subtracts (.sbcIndY b) [0xF1, b] (s.readByte (eaIndirectY b s)) s

/-- AND, ORA and EOR in their eight forms each (42_arithmetic_logic.md R162, R163, R164). -/
def Obligations.LogicOnAccumulator : Prop :=
  ∀ (b : Byte) (w : Word) (s : State),
    (SetsReg .a (.andImm b) [0x29, b] (s.a &&& b) s ∧
     SetsReg .a (.andZp b) [0x25, b] (s.a &&& s.readByte (eaZeroPage b)) s ∧
     SetsReg .a (.andZpX b) [0x35, b] (s.a &&& s.readByte (eaZeroPageX b s)) s ∧
     SetsReg .a (.andAbs w) [0x2D, loByte w, hiByte w] (s.a &&& s.readByte w) s ∧
     SetsReg .a (.andAbsX w) [0x3D, loByte w, hiByte w] (s.a &&& s.readByte (eaAbsoluteX w s)) s ∧
     SetsReg .a (.andAbsY w) [0x39, loByte w, hiByte w] (s.a &&& s.readByte (eaAbsoluteY w s)) s ∧
     SetsReg .a (.andIndX b) [0x21, b] (s.a &&& s.readByte (eaIndirectX b s)) s ∧
     SetsReg .a (.andIndY b) [0x31, b] (s.a &&& s.readByte (eaIndirectY b s)) s) ∧
    (SetsReg .a (.oraImm b) [0x09, b] (s.a ||| b) s ∧
     SetsReg .a (.oraZp b) [0x05, b] (s.a ||| s.readByte (eaZeroPage b)) s ∧
     SetsReg .a (.oraZpX b) [0x15, b] (s.a ||| s.readByte (eaZeroPageX b s)) s ∧
     SetsReg .a (.oraAbs w) [0x0D, loByte w, hiByte w] (s.a ||| s.readByte w) s ∧
     SetsReg .a (.oraAbsX w) [0x1D, loByte w, hiByte w] (s.a ||| s.readByte (eaAbsoluteX w s)) s ∧
     SetsReg .a (.oraAbsY w) [0x19, loByte w, hiByte w] (s.a ||| s.readByte (eaAbsoluteY w s)) s ∧
     SetsReg .a (.oraIndX b) [0x01, b] (s.a ||| s.readByte (eaIndirectX b s)) s ∧
     SetsReg .a (.oraIndY b) [0x11, b] (s.a ||| s.readByte (eaIndirectY b s)) s) ∧
    (SetsReg .a (.eorImm b) [0x49, b] (s.a ^^^ b) s ∧
     SetsReg .a (.eorZp b) [0x45, b] (s.a ^^^ s.readByte (eaZeroPage b)) s ∧
     SetsReg .a (.eorZpX b) [0x55, b] (s.a ^^^ s.readByte (eaZeroPageX b s)) s ∧
     SetsReg .a (.eorAbs w) [0x4D, loByte w, hiByte w] (s.a ^^^ s.readByte w) s ∧
     SetsReg .a (.eorAbsX w) [0x5D, loByte w, hiByte w] (s.a ^^^ s.readByte (eaAbsoluteX w s)) s ∧
     SetsReg .a (.eorAbsY w) [0x59, loByte w, hiByte w] (s.a ^^^ s.readByte (eaAbsoluteY w s)) s ∧
     SetsReg .a (.eorIndX b) [0x41, b] (s.a ^^^ s.readByte (eaIndirectX b s)) s ∧
     SetsReg .a (.eorIndY b) [0x51, b] (s.a ^^^ s.readByte (eaIndirectY b s)) s)

/-- CMP in its eight forms, CPX and CPY in their three each (42_arithmetic_logic.md R165, R166, R167). -/
def Obligations.ComparesWriteFlagsOnly : Prop :=
  ∀ (b : Byte) (w : Word) (s : State),
    (Compares (.cmpImm b) [0xC9, b] s.a b s ∧
     Compares (.cmpZp b) [0xC5, b] s.a (s.readByte (eaZeroPage b)) s ∧
     Compares (.cmpZpX b) [0xD5, b] s.a (s.readByte (eaZeroPageX b s)) s ∧
     Compares (.cmpAbs w) [0xCD, loByte w, hiByte w] s.a (s.readByte w) s ∧
     Compares (.cmpAbsX w) [0xDD, loByte w, hiByte w] s.a (s.readByte (eaAbsoluteX w s)) s ∧
     Compares (.cmpAbsY w) [0xD9, loByte w, hiByte w] s.a (s.readByte (eaAbsoluteY w s)) s ∧
     Compares (.cmpIndX b) [0xC1, b] s.a (s.readByte (eaIndirectX b s)) s ∧
     Compares (.cmpIndY b) [0xD1, b] s.a (s.readByte (eaIndirectY b s)) s) ∧
    (Compares (.cpxImm b) [0xE0, b] s.x b s ∧
     Compares (.cpxZp b) [0xE4, b] s.x (s.readByte (eaZeroPage b)) s ∧
     Compares (.cpxAbs w) [0xEC, loByte w, hiByte w] s.x (s.readByte w) s) ∧
    (Compares (.cpyImm b) [0xC0, b] s.y b s ∧
     Compares (.cpyZp b) [0xC4, b] s.y (s.readByte (eaZeroPage b)) s ∧
     Compares (.cpyAbs w) [0xCC, loByte w, hiByte w] s.y (s.readByte w) s)

/-- BIT in its two forms; it has no Immediate form (42_arithmetic_logic.md R168). -/
def Obligations.BitTestsOperand : Prop :=
  ∀ (b : Byte) (w : Word) (s : State),
    Tests (.bitZp b) [0x24, b] (s.readByte (eaZeroPage b)) s ∧
    Tests (.bitAbs w) [0x2C, loByte w, hiByte w] (s.readByte w) s ∧
    ∀ r ∈ catalog, r.desc.mnemonic = .bit → r.desc.form ≠ .immediate

/-- INC and DEC in their four forms each: one byte of memory changes, by one modulo 256; INC has no accumulator form
(42_arithmetic_logic.md R169, R170). -/
def Obligations.IncDecMemory : Prop :=
  ∀ (b : Byte) (w : Word) (s : State),
    Modifies (.incZp b) [0xE6, b] (eaZeroPage b) (s.readByte (eaZeroPage b) + 1) s ∧
    Modifies (.incZpX b) [0xF6, b] (eaZeroPageX b s) (s.readByte (eaZeroPageX b s) + 1) s ∧
    Modifies (.incAbs w) [0xEE, loByte w, hiByte w] w (s.readByte w + 1) s ∧
    Modifies (.incAbsX w) [0xFE, loByte w, hiByte w] (eaAbsoluteX w s)
      (s.readByte (eaAbsoluteX w s) + 1) s ∧
    Modifies (.decZp b) [0xC6, b] (eaZeroPage b) (s.readByte (eaZeroPage b) - 1) s ∧
    Modifies (.decZpX b) [0xD6, b] (eaZeroPageX b s) (s.readByte (eaZeroPageX b s) - 1) s ∧
    Modifies (.decAbs w) [0xCE, loByte w, hiByte w] w (s.readByte w - 1) s ∧
    Modifies (.decAbsX w) [0xDE, loByte w, hiByte w] (eaAbsoluteX w s)
      (s.readByte (eaAbsoluteX w s) - 1) s ∧
    ∀ r ∈ catalog, r.desc.mnemonic = .inc → r.desc.form ≠ .accumulator

/-- INX, INY, DEX, DEY (42_arithmetic_logic.md R171 to R174). -/
def Obligations.IncDecIndexRegisters : Prop :=
  ∀ s : State,
    SetsReg .x .inx [0xE8] (s.x + 1) s ∧ SetsReg .y .iny [0xC8] (s.y + 1) s ∧
    SetsReg .x .dex [0xCA] (s.x - 1) s ∧ SetsReg .y .dey [0x88] (s.y - 1) s

/-! ### Shifts and rotates -/

/-- ASL and LSR in their five forms each: the old carry does not enter (43_shift_rotate.md R190, R191). -/
def Obligations.AslLsrShiftByOne : Prop :=
  ∀ (b : Byte) (w : Word) (s : State),
    let m := fun ea => (s.readByte ea).toNat
    let c := fun ea k => (s.readByte ea).getLsbD k
    (ShiftsA .aslAcc [0x0A] (2 * s.a.toNat) (s.a.getLsbD 7) s ∧
     ShiftsMem (.aslZp b) [0x06, b] (eaZeroPage b) (2 * m (eaZeroPage b)) (c (eaZeroPage b) 7) s ∧
     ShiftsMem (.aslZpX b) [0x16, b] (eaZeroPageX b s) (2 * m (eaZeroPageX b s))
       (c (eaZeroPageX b s) 7) s ∧
     ShiftsMem (.aslAbs w) [0x0E, loByte w, hiByte w] w (2 * m w) (c w 7) s ∧
     ShiftsMem (.aslAbsX w) [0x1E, loByte w, hiByte w] (eaAbsoluteX w s) (2 * m (eaAbsoluteX w s))
       (c (eaAbsoluteX w s) 7) s) ∧
    (ShiftsA .lsrAcc [0x4A] (s.a.toNat / 2) (s.a.getLsbD 0) s ∧
     ShiftsMem (.lsrZp b) [0x46, b] (eaZeroPage b) (m (eaZeroPage b) / 2) (c (eaZeroPage b) 0) s ∧
     ShiftsMem (.lsrZpX b) [0x56, b] (eaZeroPageX b s) (m (eaZeroPageX b s) / 2)
       (c (eaZeroPageX b s) 0) s ∧
     ShiftsMem (.lsrAbs w) [0x4E, loByte w, hiByte w] w (m w / 2) (c w 0) s ∧
     ShiftsMem (.lsrAbsX w) [0x5E, loByte w, hiByte w] (eaAbsoluteX w s) (m (eaAbsoluteX w s) / 2)
       (c (eaAbsoluteX w s) 0) s)

/-- ROL and ROR in their five forms each: the old carry enters at bit 0 and at bit 7
(43_shift_rotate.md R192, R193). -/
def Obligations.RolRorRotateThroughCarry : Prop :=
  ∀ (b : Byte) (w : Word) (s : State),
    let m := fun ea => (s.readByte ea).toNat
    let c := fun ea k => (s.readByte ea).getLsbD k
    let old := (s.flag .carry).toNat
    (ShiftsA .rolAcc [0x2A] (2 * s.a.toNat + old) (s.a.getLsbD 7) s ∧
     ShiftsMem (.rolZp b) [0x26, b] (eaZeroPage b) (2 * m (eaZeroPage b) + old)
       (c (eaZeroPage b) 7) s ∧
     ShiftsMem (.rolZpX b) [0x36, b] (eaZeroPageX b s) (2 * m (eaZeroPageX b s) + old)
       (c (eaZeroPageX b s) 7) s ∧
     ShiftsMem (.rolAbs w) [0x2E, loByte w, hiByte w] w (2 * m w + old) (c w 7) s ∧
     ShiftsMem (.rolAbsX w) [0x3E, loByte w, hiByte w] (eaAbsoluteX w s)
       (2 * m (eaAbsoluteX w s) + old) (c (eaAbsoluteX w s) 7) s) ∧
    (ShiftsA .rorAcc [0x6A] (s.a.toNat / 2 + 128 * old) (s.a.getLsbD 0) s ∧
     ShiftsMem (.rorZp b) [0x66, b] (eaZeroPage b) (m (eaZeroPage b) / 2 + 128 * old)
       (c (eaZeroPage b) 0) s ∧
     ShiftsMem (.rorZpX b) [0x76, b] (eaZeroPageX b s) (m (eaZeroPageX b s) / 2 + 128 * old)
       (c (eaZeroPageX b s) 0) s ∧
     ShiftsMem (.rorAbs w) [0x6E, loByte w, hiByte w] w (m w / 2 + 128 * old) (c w 0) s ∧
     ShiftsMem (.rorAbsX w) [0x7E, loByte w, hiByte w] (eaAbsoluteX w s)
       (m (eaAbsoluteX w s) / 2 + 128 * old) (c (eaAbsoluteX w s) 0) s)

/-- "Nine ROLs restore the original value and carry" (43_shift_rotate.md R192), and nine RORs do too, the rotation of
R193 being of the same nine bits. -/
def Obligations.NineRotatesRestore : Prop :=
  ∀ s : State,
    (∃ t, repeatExec .rolAcc 9 s = some t ∧ t.a = s.a ∧ t.flag .carry = s.flag .carry) ∧
    (∃ t, repeatExec .rorAcc 9 s = some t ∧ t.a = s.a ∧ t.flag .carry = s.flag .carry)

/-! ### Control transfer -/

/-- JMP absolute: PC is exactly the operand word (44_control_transfer.md R200; that PC is not adjusted further when
the target equals `pc_op` or `pc_next` is the spec's decision D8; log 14). -/
def Obligations.JmpAbsoluteSetsPc : Prop :=
  ∀ (w : Word) (s : State), Jumps (.jmpAbs w) [0x4C, loByte w, hiByte w] w s

/-- JMP indirect: the second pointer byte is at `(ptr & 0xFF00) | ((ptr + 1) & 0x00FF)`, and where the low byte of the
pointer is not 0xFF the target is the word at the pointer (44_control_transfer.md R201; the page wrap is the
spec's decision D13; log 19). -/
def Obligations.JmpIndirectWrapsInPage : Prop :=
  ∀ (ptr : Word) (s : State),
    Jumps (.jmpInd ptr) [0x6C, loByte ptr, hiByte ptr]
      (wordOf (s.readByte ((ptr &&& 0xFF00) ||| ((ptr + 1) &&& 0x00FF))) (s.readByte ptr)) s ∧
    (ptr.toNat % 256 ≠ 255 →
      Jumps (.jmpInd ptr) [0x6C, loByte ptr, hiByte ptr] (s.readWord ptr) s)

/-- JSR pushes the address of its last byte, high byte first, and transfers; RTS pulls a word, low byte first, and
transfers to it plus one (44_control_transfer.md R202, R203; the stack discipline is the spec's decision D10; log 16). -/
def Obligations.JsrAndRtsUseStack : Prop :=
  ∀ (w : Word) (s : State),
    (Runs (.jsr w) [0x20, loByte w, hiByte w] s fun t =>
      t.pc = w ∧ t.sp = s.sp - 2 ∧
      t.readByte (stackAddr s.sp) = hiByte (s.pc + 2) ∧
      t.readByte (stackAddr (s.sp - 1)) = loByte (s.pc + 2) ∧
      Keeps [.sp] [] s t ∧ KeepsMemBut [stackAddr s.sp, stackAddr (s.sp - 1)] s t) ∧
    (Runs .rts [0x60] s fun t =>
      t.pc.toNat = ((s.readByte (stackAddr (s.sp + 1))).toNat +
        256 * (s.readByte (stackAddr (s.sp + 2))).toNat + 1) % 65536 ∧
      t.sp = s.sp + 2 ∧ Keeps [.sp] [] s t ∧ KeepsMem s t)

/-- An RTS straight after a JSR returns to the instruction after the JSR with SP as it was
(44_control_transfer.md R202, R203; log 16). -/
def Obligations.RtsAfterJsrReturns : Prop :=
  ∀ (w : Word) (s : State), ∃ t u,
    exec (.jsr w) s = .next t ∧ exec .rts t = .next u ∧ u.pc = s.pc + 3 ∧ Keeps [] [] s u

/-- The eight branches (44_control_transfer.md R204 to R212). -/
def Obligations.BranchesFollowFlags : Prop :=
  ∀ (b : Byte) (s : State),
    Branches (.bcc b) [0x90, b] (s.flag .carry = false) b s ∧
    Branches (.bcs b) [0xB0, b] (s.flag .carry = true) b s ∧
    Branches (.beq b) [0xF0, b] (s.flag .zero = true) b s ∧
    Branches (.bne b) [0xD0, b] (s.flag .zero = false) b s ∧
    Branches (.bmi b) [0x30, b] (s.flag .negative = true) b s ∧
    Branches (.bpl b) [0x10, b] (s.flag .negative = false) b s ∧
    Branches (.bvc b) [0x50, b] (s.flag .overflow = false) b s ∧
    Branches (.bvs b) [0x70, b] (s.flag .overflow = true) b s

/-! ### Stack, flag and system instructions -/

/-- PHA pushes A; PHP pushes P with Break and Break2 set and leaves P (45_stack_flags_system.md R220, R221; the spec's
decisions D10 and D12; log 16, log 18). -/
def Obligations.PhaPhpPush : Prop :=
  ∀ s : State, Pushes .pha [0x48] s.a s ∧ Pushes .php [0x08] (s.p ||| 0x30) s

/-- PLA pulls A and sets Z and N; PLP pulls the six flags and keeps Break and Break2 (45_stack_flags_system.md R222,
R223; the spec's decisions D10 and D12; log 16, log 18). -/
def Obligations.PlaPlpPull : Prop :=
  ∀ s : State,
    (RunsOn .pla [0x68] s fun t =>
      t.a = s.readByte (stackAddr (s.sp + 1)) ∧ ZN t.a t ∧ t.sp = s.sp + 1 ∧
      Keeps [.a, .sp] [.zero, .negative] s t ∧ KeepsMem s t) ∧
    (RunsOn .plp [0x28] s fun t =>
      PullsFlags (s.readByte (stackAddr (s.sp + 1))) s t ∧ t.sp = s.sp + 1 ∧
      Keeps [.sp] [.carry, .zero, .interruptDisable, .decimal, .overflow, .negative] s t ∧
      KeepsMem s t)

/-- "PHP followed by PLP leaves P unchanged for every P" (45_stack_flags_system.md R223; the spec's decision D12;
log 18). -/
def Obligations.PlpAfterPhpRestoresStatus : Prop :=
  ∀ s : State, ∃ t u,
    exec .php s = .next t ∧ exec .plp t = .next u ∧ u.p = s.p ∧ Keeps [] [] s u

/-- The seven flag instructions each write one flag (45_stack_flags_system.md R224 to R230). -/
def Obligations.FlagInstructionsWriteOneFlag : Prop :=
  ∀ s : State,
    SetsFlag .clc [0x18] .carry false s ∧ SetsFlag .sec [0x38] .carry true s ∧
    SetsFlag .cli [0x58] .interruptDisable false s ∧
    SetsFlag .sei [0x78] .interruptDisable true s ∧
    SetsFlag .cld [0xD8] .decimal false s ∧ SetsFlag .sed [0xF8] .decimal true s ∧
    SetsFlag .clv [0xB8] .overflow false s

/-- NOP advances PC and changes nothing else (45_stack_flags_system.md R231). -/
def Obligations.NopAdvancesPcOnly : Prop :=
  ∀ s : State, RunsOn .nop [0xEA] s fun t => Keeps [] [] s t ∧ KeepsMem s t

/-- BRK halts with no error recorded and PC after its one byte; no register, flag or memory cell changes
(45_stack_flags_system.md R232; that it does nothing else is the spec's decision D9; log 15). -/
def Obligations.BrkHalts : Prop :=
  ∀ s : State,
    encode .brk = [0x00] ∧
    exec .brk s = .next { s with pc := s.pc + 1, runState := .halted }

/-- RTI pulls the six flags and then PC, with no added one; SP rises by three
(45_stack_flags_system.md R233; the spec's decisions D10 and D12; log 16, log 18). -/
def Obligations.RtiPullsStatusAndPc : Prop :=
  ∀ s : State,
    Runs .rti [0x40] s fun t =>
      PullsFlags (s.readByte (stackAddr (s.sp + 1))) s t ∧
      t.pc.toNat = (s.readByte (stackAddr (s.sp + 2))).toNat +
        256 * (s.readByte (stackAddr (s.sp + 3))).toNat ∧
      t.sp = s.sp + 3 ∧
      Keeps [.sp] [.carry, .zero, .interruptDisable, .decimal, .overflow, .negative] s t ∧
      KeepsMem s t

/-! ### Whole-machine rules -/

/-- A register changes only by an instruction of its list (10_state.md R20 to R23). -/
def Obligations.RegistersWrittenOnlyByTheirWriters : Prop :=
  ∀ (i : Instr) (s t : State) (r : Reg),
    exec i s = .next t → i.mnemonic ∉ regWriters r → t.reg r = s.reg r

/-- A flag changes only by an instruction of its row in the table of 10_state.md R26; Break and Break2 by none. -/
def Obligations.FlagsWrittenOnlyByTheirWriters : Prop :=
  ∀ (i : Instr) (s t : State) (f : Flag),
    exec i s = .next t → i.mnemonic ∉ flagWriters f → t.flag f = s.flag f

/-- Memory changes only by a store, a read-modify-write or a push, and the accumulator forms of the shifts change
none (20_memory.md R57, 40_engine_and_resolver.md R133). -/
def Obligations.MemoryWrittenOnlyByWriters : Prop :=
  ∀ (i : Instr) (s t : State), exec i s = .next t →
    i.mnemonic ∉ memWriters ∨ i ∈ [Instr.aslAcc, .lsrAcc, .rolAcc, .rorAcc] → KeepsMem s t

/-- After an instruction that is no control transfer PC is the address of the opcode plus the length
(40_engine_and_resolver.md R113, first part), and the run state changes only by BRK (R112). -/
def Obligations.PcAdvancesByLength : Prop :=
  ∀ (i : Instr) (s t : State), exec i s = .next t →
    (i.mnemonic ∉ controlTransfers → t.pc = s.pc + BitVec.ofNat 16 i.length) ∧
    (i ≠ .brk → t.runState = s.runState) ∧ t.fault = s.fault

/-- Interrupt-Disable, Decimal, Break and Break2 are stored only (10_state.md R25): changing any of them changes nothing
an instruction other than PHP does, but for those four flags themselves. That arithmetic ignores Decimal is the spec's
decision D11 (log 17), and that nothing is masked by Interrupt-Disable its decision D23. -/
def Obligations.StoredOnlyFlagsDoNotMatter : Prop :=
  ∀ (i : Instr) (s : State) (q : Byte), i ≠ .php →
    (∀ f ∈ readFlags, testFlag q f = s.flag f) →
    ∃ t u, exec i s = .next t ∧ exec i (s.setP q) = .next u ∧
      u.a = t.a ∧ u.x = t.x ∧ u.y = t.y ∧ u.sp = t.sp ∧ u.pc = t.pc ∧ u.mem = t.mem ∧
      u.runState = t.runState ∧ u.fault = t.fault ∧
      ∀ f ∈ readFlags, u.flag f = t.flag f
end

