-- ==== Sys2Proof/Laws/Flags.lean ====
section
/-! SUPPORT. What each flag computation leaves in each flag: every later proof reads P through `testFlag` and these
lemmas, and never through its bits. -/

namespace Sys2Proof.Machine

/-- A flag write changes its own flag and no other (10_state.md R26). -/
@[simp] theorem testFlag_putFlag (p : Byte) (f g : Flag) (b : Bool) :
    testFlag (putFlag p f b) g = if g = f then b else testFlag p g := by
  cases b <;> cases f <;> cases g <;> simp [testFlag, putFlag, Flag.bit, Flag.mask]

/-- Two status bytes with equal flags are equal. -/
theorem status_eq_of_flags {p q : Byte} (h : ∀ f, testFlag p f = testFlag q f) : p = q := by
  apply BitVec.eq_of_getLsbD_eq
  intro i hi
  have h8 : i = 0 ∨ i = 1 ∨ i = 2 ∨ i = 3 ∨ i = 4 ∨ i = 5 ∨ i = 6 ∨ i = 7 := by omega
  rcases h8 with rfl | rfl | rfl | rfl | rfl | rfl | rfl | rfl
  · exact h .carry
  · exact h .zero
  · exact h .interruptDisable
  · exact h .decimal
  · exact h .break
  · exact h .break2
  · exact h .overflow
  · exact h .negative

/-- `setZN` (10_state.md R27), flag by flag. -/
theorem testFlag_setZN (v p : Byte) (f : Flag) :
    testFlag (setZN v p) f =
      if f = .negative then v.msb else if f = .zero then v == 0 else testFlag p f := by
  simp [setZN]

/-- The flags of ADC (42_arithmetic_logic.md R160) before `setZN`. -/
theorem testFlag_adc (a m p : Byte) (f : Flag) :
    testFlag (adc a m p).2 f =
      if f = .negative then (adc a m p).1.msb
      else if f = .zero then (adc a m p).1 == 0
      else if f = .overflow then
        (((a ^^^ (adc a m p).1) &&& (m ^^^ (adc a m p).1)) &&& 0x80#8) != 0
      else if f = .carry then decide (a.toNat + m.toNat + carryNat p > 255)
      else testFlag p f := by
  simp [adc, testFlag_setZN]

/-- The result of ADC wraps modulo 256 (R160). -/
theorem adc_toNat (a m p : Byte) : (adc a m p).1.toNat = (a.toNat + m.toNat + carryNat p) % 256 := by
  simp [adc]

/-- The flags of a compare (R165). -/
theorem testFlag_compareStatus (r m p : Byte) (f : Flag) :
    testFlag (compareStatus r m p) f =
      if f = .negative then (r - m).msb
      else if f = .zero then r == m
      else if f = .carry then decide (m.toNat ≤ r.toNat)
      else testFlag p f := by
  simp [compareStatus]

/-- The flags of BIT (R168). -/
theorem testFlag_bitTest (a m p : Byte) (f : Flag) :
    testFlag (bitTest a m p) f =
      if f = .overflow then m.getLsbD 6
      else if f = .negative then m.getLsbD 7
      else if f = .zero then (a &&& m) == 0
      else testFlag p f := by
  simp [bitTest]

/-- The flags of the shifts and rotates (43_shift_rotate.md R190 to R193): Z and N of the result, C the bit that
left, every other flag as it was. -/
theorem testFlag_shift (r p : Byte) (c : Bool) (f : Flag) :
    testFlag (setZN r (putFlag p .carry c)) f =
      if f = .negative then r.msb else if f = .zero then r == 0 else if f = .carry then c
      else testFlag p f := by
  simp [testFlag_setZN]

theorem testFlag_asl (v p : Byte) (f : Flag) :
    testFlag (asl v p).2 f =
      if f = .negative then (asl v p).1.msb else if f = .zero then (asl v p).1 == 0
      else if f = .carry then v.getLsbD 7 else testFlag p f :=
  testFlag_shift _ _ _ _

theorem testFlag_lsr (v p : Byte) (f : Flag) :
    testFlag (lsr v p).2 f =
      if f = .negative then (lsr v p).1.msb else if f = .zero then (lsr v p).1 == 0
      else if f = .carry then v.getLsbD 0 else testFlag p f :=
  testFlag_shift _ _ _ _

theorem testFlag_rol (v p : Byte) (f : Flag) :
    testFlag (rol v p).2 f =
      if f = .negative then (rol v p).1.msb else if f = .zero then (rol v p).1 == 0
      else if f = .carry then v.getLsbD 7 else testFlag p f :=
  testFlag_shift _ _ _ _

theorem testFlag_ror (v p : Byte) (f : Flag) :
    testFlag (ror v p).2 f =
      if f = .negative then (ror v p).1.msb else if f = .zero then (ror v p).1 == 0
      else if f = .carry then v.getLsbD 0 else testFlag p f :=
  testFlag_shift _ _ _ _

/-- The carry as a number is 0 or 1. -/
theorem carryNat_eq (p : Byte) : carryNat p = if testFlag p .carry then 1 else 0 := by
  cases h : testFlag p .carry <;> simp [carryNat, h]

/-- The byte PHP pushes (45_stack_flags_system.md R221), flag by flag. -/
theorem testFlag_pushedStatus (p : Byte) (f : Flag) :
    testFlag (pushedStatus p) f = if f = .break ∨ f = .break2 then true else testFlag p f := by
  cases f <;> simp [testFlag, pushedStatus, Flag.bit]

/-- P after a pull (45_stack_flags_system.md R223), flag by flag. -/
theorem testFlag_pulledStatus (v p : Byte) (f : Flag) :
    testFlag (pulledStatus v p) f =
      if f = .break ∨ f = .break2 then testFlag p f else testFlag v f := by
  cases f <;> simp [testFlag, pulledStatus, Flag.bit]

/-! ### The flags of a state -/

variable (s : State)

theorem State.flag_setP (v : Byte) (f : Flag) : (s.setP v).flag f = testFlag v f := rfl
@[simp] theorem State.flag_setA (v : Byte) (f : Flag) : (s.setA v).flag f = s.flag f := rfl
@[simp] theorem State.flag_setX (v : Byte) (f : Flag) : (s.setX v).flag f = s.flag f := rfl
@[simp] theorem State.flag_setY (v : Byte) (f : Flag) : (s.setY v).flag f = s.flag f := rfl
@[simp] theorem State.flag_setSp (v : Byte) (f : Flag) : (s.setSp v).flag f = s.flag f := rfl
@[simp] theorem State.flag_setPc (v : Word) (f : Flag) : (s.setPc v).flag f = s.flag f := rfl
@[simp] theorem State.flag_setMem (v : Memory) (f : Flag) : (s.setMem v).flag f = s.flag f := rfl
@[simp] theorem State.flag_setRunState (v : RunState) (f : Flag) : (s.setRunState v).flag f = s.flag f := rfl
@[simp] theorem State.flag_setFault (v : Option StepError) (f : Flag) : (s.setFault v).flag f = s.flag f := rfl

@[simp] theorem State.flag_writeByte (a : Word) (v : Byte) (f : Flag) :
    (s.writeByte a v).flag f = s.flag f := rfl

end Sys2Proof.Machine
end

