-- ==== Sys2Proof/Laws/Memory.lean ====
section
/-! SUPPORT. The memory laws: read after write, for every memory; every memory operation keeps the canonical form;
a canonical memory is decided by what its bytes read as. -/

namespace Sys2Proof.Machine

/-! ### Lookup after store, on the list -/

theorem Memory.lookup_filter_ne (m : Memory) {n k : Nat} (h : k ≠ n) :
    Memory.lookup (m.filter fun c => c.1 != n) k = Memory.lookup m k := by
  induction m with
  | nil => rfl
  | cons c rest ih =>
    obtain ⟨j, v⟩ := c
    by_cases hj : j = n
    · subst hj
      simp [Memory.lookup, ih, Ne.symm h]
    · simp [Memory.lookup, ih, hj]

theorem Memory.lookup_filter_self (m : Memory) (n : Nat) :
    Memory.lookup (m.filter fun c => c.1 != n) n = Memory.unlisted := by
  induction m with
  | nil => rfl
  | cons c rest ih =>
    obtain ⟨j, v⟩ := c
    by_cases hj : j = n
    · simp [ih, hj]
    · simp [Memory.lookup, ih, hj]

theorem Memory.lookup_insertCell_ne (m : Memory) {n k : Nat} (v : Byte) (h : k ≠ n) :
    Memory.lookup (Memory.insertCell n v m) k = Memory.lookup m k := by
  induction m with
  | nil => simp [Memory.insertCell, Memory.lookup, Ne.symm h]
  | cons c rest ih =>
    obtain ⟨j, u⟩ := c
    by_cases hj : n < j
    · simp [Memory.insertCell, Memory.lookup, hj, Ne.symm h]
    · simp [Memory.insertCell, Memory.lookup, hj, ih]

theorem Memory.lookup_insertCell_self (m : Memory) (n : Nat) (v : Byte)
    (h : ∀ c ∈ m, c.1 ≠ n) : Memory.lookup (Memory.insertCell n v m) n = v := by
  induction m with
  | nil => simp [Memory.insertCell, Memory.lookup]
  | cons c rest ih =>
    obtain ⟨j, u⟩ := c
    have hj : j ≠ n := h (j, u) (by simp)
    have ih' := ih fun c hc => h c (by simp [hc])
    by_cases hlt : n < j
    · simp [Memory.insertCell, Memory.lookup, hlt]
    · simp [Memory.insertCell, Memory.lookup, hlt, hj, ih']

/-- A write leaves every other byte alone, whatever the memory. -/
theorem Memory.lookup_store_ne (m : Memory) {n k : Nat} (v : Byte) (h : k ≠ n) :
    Memory.lookup (m.store n v) k = Memory.lookup m k := by
  unfold Memory.store
  split
  · exact Memory.lookup_filter_ne m h
  · rw [Memory.lookup_insertCell_ne _ _ h, Memory.lookup_filter_ne m h]

/-- A read after a write to the same address gives the byte written, whatever the memory. -/
theorem Memory.lookup_store_self (m : Memory) (n : Nat) (v : Byte) :
    Memory.lookup (m.store n v) n = v := by
  unfold Memory.store
  split
  · rename_i h
    rw [Memory.lookup_filter_self, h]
  · exact Memory.lookup_insertCell_self _ _ _ (by simp)

/-! ### The canonical form -/

theorem Memory.mem_insertCell {m : Memory} {n : Nat} {v : Byte} {c : Host.Cell} :
    c ∈ Memory.insertCell n v m ↔ c = (n, v) ∨ c ∈ m := by
  induction m with
  | nil => simp [Memory.insertCell]
  | cons d rest ih =>
    obtain ⟨j, u⟩ := d
    by_cases h : n < j
    · simp [Memory.insertCell, h]
    · simp only [Memory.insertCell, h, if_false, List.mem_cons, ih]
      tauto

theorem Memory.pairwise_insertCell {m : Memory} {n : Nat} {v : Byte}
    (hm : m.Pairwise fun c d => c.1 < d.1) (hn : ∀ c ∈ m, c.1 ≠ n) :
    (Memory.insertCell n v m).Pairwise fun c d => c.1 < d.1 := by
  induction m with
  | nil => simp [Memory.insertCell]
  | cons d rest ih =>
    obtain ⟨j, u⟩ := d
    obtain ⟨hd, hrest⟩ := List.pairwise_cons.mp hm
    have hj : j ≠ n := hn (j, u) (by simp)
    by_cases h : n < j
    · simp only [Memory.insertCell, h, if_true]
      refine List.pairwise_cons.mpr ⟨fun c hc => ?_, hm⟩
      rcases List.mem_cons.mp hc with rfl | hc
      · exact h
      · exact h.trans (hd c hc)
    · simp only [Memory.insertCell, h, if_false]
      refine List.pairwise_cons.mpr ⟨fun c hc => ?_, ih hrest fun c hc => hn c (by simp [hc])⟩
      rcases Memory.mem_insertCell.mp hc with rfl | hc
      · show j < n
        omega
      · exact hd c hc

/-- `store` keeps the canonical form. -/
theorem Memory.wf_store {m : Memory} (h : m.wf) {n : Nat} (hn : n < 65536) (v : Byte) :
    (m.store n v).wf := by
  have hf : (m.filter fun c => c.1 != n).Pairwise fun c d => c.1 < d.1 := h.1.filter _
  have hc : ∀ c ∈ m.filter fun c => c.1 != n, c.1 < 65536 ∧ c.2 ≠ Memory.unlisted :=
    fun c hc => h.2 c (List.mem_filter.mp hc).1
  unfold Memory.store
  split
  · exact ⟨hf, hc⟩
  · rename_i hv
    refine ⟨Memory.pairwise_insertCell hf (by simp), fun c hcm => ?_⟩
    rcases Memory.mem_insertCell.mp hcm with rfl | hcm
    · exact ⟨hn, hv⟩
    · exact hc c hcm

/-- The empty memory, the memory of `new` and of `State.reset`, is in canonical form. -/
theorem Memory.wf_nil : Memory.wf [] := by
  simp [Memory.wf]

theorem Memory.lookup_eq_unlisted_of_lt {m : Memory} {n : Nat} (h : ∀ c ∈ m, n < c.1) :
    Memory.lookup m n = Memory.unlisted := by
  induction m with
  | nil => rfl
  | cons c rest ih =>
    obtain ⟨k, v⟩ := c
    have hk : n < k := h (k, v) (by simp)
    have hne : k ≠ n := by omega
    simp [Memory.lookup, hne, ih fun c hc => h c (by simp [hc])]

/-- Two canonical memories that read alike everywhere are equal data. -/
theorem Memory.eq_of_lookup_eq {m m' : Memory} (h : m.wf) (h' : m'.wf)
    (heq : ∀ n, Memory.lookup m n = Memory.lookup m' n) : m = m' := by
  induction m generalizing m' with
  | nil =>
    cases m' with
    | nil => rfl
    | cons c rest =>
      have := heq c.1
      simp only [Memory.lookup, if_true] at this
      exact absurd this.symm (h'.2 c (by simp)).2
  | cons c rest ih =>
    obtain ⟨hc, hrest⟩ := List.pairwise_cons.mp h.1
    cases m' with
    | nil =>
      have := heq c.1
      simp only [Memory.lookup, if_true] at this
      exact absurd this (h.2 c (by simp)).2
    | cons d rest' =>
      obtain ⟨hd, hrest'⟩ := List.pairwise_cons.mp h'.1
      have hcv := (h.2 c (by simp)).2
      have hdv := (h'.2 d (by simp)).2
      have hkey : c.1 = d.1 := by
        rcases Nat.lt_trichotomy c.1 d.1 with hlt | heqk | hgt
        · have h1 : Memory.lookup (d :: rest') c.1 = Memory.unlisted :=
            Memory.lookup_eq_unlisted_of_lt fun e he => by
              rcases List.mem_cons.mp he with rfl | he
              · exact hlt
              · exact hlt.trans (hd e he)
          have h2 := heq c.1
          rw [h1] at h2
          simp only [Memory.lookup, if_true] at h2
          exact absurd h2 hcv
        · exact heqk
        · have h1 : Memory.lookup (c :: rest) d.1 = Memory.unlisted :=
            Memory.lookup_eq_unlisted_of_lt fun e he => by
              rcases List.mem_cons.mp he with rfl | he
              · exact hgt
              · exact hgt.trans (hc e he)
          have h2 := heq d.1
          rw [h1] at h2
          simp only [Memory.lookup, if_true] at h2
          exact absurd h2.symm hdv
      have hval : c.2 = d.2 := by
        have h2 := heq c.1
        simp only [Memory.lookup, hkey, if_true] at h2
        exact h2
      have hrests : rest = rest' := by
        refine ih ⟨hrest, fun e he => h.2 e (by simp [he])⟩
          ⟨hrest', fun e he => h'.2 e (by simp [he])⟩ fun n => ?_
        by_cases hn : n = c.1
        · rw [hn, Memory.lookup_eq_unlisted_of_lt hc, hkey, Memory.lookup_eq_unlisted_of_lt hd]
        · have h2 := heq n
          simp only [Memory.lookup] at h2
          rwa [if_neg (Ne.symm hn), if_neg (by rw [← hkey]; exact Ne.symm hn)] at h2
      rw [Prod.ext hkey hval, hrests]

/-! ### The byte primitives on a state -/

variable (s : State)

@[simp] theorem State.writeByte_a (a : Word) (v : Byte) : (s.writeByte a v).a = s.a := rfl
@[simp] theorem State.writeByte_x (a : Word) (v : Byte) : (s.writeByte a v).x = s.x := rfl
@[simp] theorem State.writeByte_y (a : Word) (v : Byte) : (s.writeByte a v).y = s.y := rfl
@[simp] theorem State.writeByte_sp (a : Word) (v : Byte) : (s.writeByte a v).sp = s.sp := rfl
@[simp] theorem State.writeByte_pc (a : Word) (v : Byte) : (s.writeByte a v).pc = s.pc := rfl
@[simp] theorem State.writeByte_p (a : Word) (v : Byte) : (s.writeByte a v).p = s.p := rfl
@[simp] theorem State.writeByte_runState (a : Word) (v : Byte) :
    (s.writeByte a v).runState = s.runState := rfl
@[simp] theorem State.writeByte_fault (a : Word) (v : Byte) : (s.writeByte a v).fault = s.fault := rfl

@[simp] theorem State.readByte_setA (v : Byte) (a : Word) :
    (s.setA v).readByte a = s.readByte a := rfl
@[simp] theorem State.readByte_setX (v : Byte) (a : Word) :
    (s.setX v).readByte a = s.readByte a := rfl
@[simp] theorem State.readByte_setY (v : Byte) (a : Word) :
    (s.setY v).readByte a = s.readByte a := rfl
@[simp] theorem State.readByte_setSp (v : Byte) (a : Word) :
    (s.setSp v).readByte a = s.readByte a := rfl
@[simp] theorem State.readByte_setPc (v : Word) (a : Word) :
    (s.setPc v).readByte a = s.readByte a := rfl
@[simp] theorem State.readByte_setP (v : Byte) (a : Word) :
    (s.setP v).readByte a = s.readByte a := rfl
@[simp] theorem State.readByte_setRunState (v : RunState) (a : Word) :
    (s.setRunState v).readByte a = s.readByte a := rfl
@[simp] theorem State.readByte_setFault (v : Option StepError) (a : Word) :
    (s.setFault v).readByte a = s.readByte a := rfl

/-- What `writeByte` leaves at any address. -/
theorem State.readByte_writeByte (a b : Word) (v : Byte) :
    (s.writeByte a v).readByte b = if b = a then v else s.readByte b := by
  by_cases h : b = a
  · subst h
    simp [State.readByte, State.writeByte, State.setMem, Memory.lookup_store_self]
  · have hn : b.toNat ≠ a.toNat := fun hne => h (BitVec.eq_of_toNat_eq hne)
    simp [State.readByte, State.writeByte, State.setMem, Memory.lookup_store_ne _ _ hn, h]

@[simp] theorem State.readByte_writeByte_self (a : Word) (v : Byte) :
    (s.writeByte a v).readByte a = v := by
  simp [State.readByte_writeByte]

theorem State.readByte_writeByte_ne {a b : Word} (h : b ≠ a) (v : Byte) :
    (s.writeByte a v).readByte b = s.readByte b := by
  simp [State.readByte_writeByte, h]

/-- `writeByte` keeps the canonical form. -/
theorem State.writeByte_wf {s : State} (h : s.mem.wf) (a : Word) (v : Byte) :
    (s.writeByte a v).mem.wf :=
  Memory.wf_store h a.isLt v

/-- `writeWord` keeps the canonical form. -/
theorem State.writeWord_wf {s : State} (h : s.mem.wf) (a w : Word) : (s.writeWord a w).mem.wf :=
  State.writeByte_wf (State.writeByte_wf h _ _) _ _

/-- `writeBytes` keeps the canonical form. -/
theorem State.writeBytes_wf {s : State} (h : s.mem.wf) (a : Word) (bs : List Byte) :
    (s.writeBytes a bs).mem.wf := by
  induction bs generalizing s a with
  | nil => exact h
  | cons b rest ih => exact ih (State.writeByte_wf h a b) (a + 1)

/-- `writeBytes` changes memory only. -/
theorem State.writeBytes_eq_setMem (a : Word) (bs : List Byte) :
    s.writeBytes a bs = s.setMem (s.writeBytes a bs).mem := by
  induction bs generalizing s a with
  | nil => rfl
  | cons b rest ih =>
    rw [State.writeBytes, ih]
    rfl

/-- The word primitives, byte by byte. -/
theorem State.writeWord_readByte (a w b : Word) :
    (s.writeWord a w).readByte b =
      if b = a + 1 then hiByte w else if b = a then loByte w else s.readByte b := by
  simp [State.writeWord, State.readByte_writeByte]

end Sys2Proof.Machine
end

