-- ==== Sys2Proof/Laws/Ops.lean ====
section
/-! SUPPORT. What the stack primitives, `halt` and `raise` leave, said once for each. -/

namespace Sys2Proof.Machine

variable (s : State) (v : Byte) (w : Word) (e : StepError)

/-- The stack never leaves the stack page (10_state.md R23). -/
theorem stackAddr_toNat (sp : Byte) : (stackAddr sp).toNat = 256 + sp.toNat := by
  have h := sp.isLt
  simp only [stackAddr, stackBase, BitVec.toNat_add, zext16_toNat]
  simp
  omega

/-- Two offsets designate the same location only if they are equal. -/
theorem stackAddr_inj {sp sq : Byte} : stackAddr sp = stackAddr sq ↔ sp = sq := by
  constructor
  · intro h
    apply BitVec.eq_of_toNat_eq
    have := congrArg BitVec.toNat h
    rw [stackAddr_toNat, stackAddr_toNat] at this
    omega
  · rintro rfl
    rfl

/-! ### push8, pull8 (40_engine_and_resolver.md R127, R128) -/

@[simp] theorem push8_a : (push8 v s).a = s.a := rfl
@[simp] theorem push8_x : (push8 v s).x = s.x := rfl
@[simp] theorem push8_y : (push8 v s).y = s.y := rfl
@[simp] theorem push8_sp : (push8 v s).sp = s.sp - 1 := rfl
@[simp] theorem push8_pc : (push8 v s).pc = s.pc := rfl
@[simp] theorem push8_p : (push8 v s).p = s.p := rfl
@[simp] theorem push8_runState : (push8 v s).runState = s.runState := rfl
@[simp] theorem push8_fault : (push8 v s).fault = s.fault := rfl

theorem push8_readByte (a : Word) :
    (push8 v s).readByte a = if a = stackAddr s.sp then v else s.readByte a := by
  simp [push8, State.readByte_writeByte]

theorem push8_wf {s : State} (h : s.mem.wf) : (push8 v s).mem.wf := State.writeByte_wf h _ _

@[simp] theorem pull8_fst : (pull8 s).1 = s.readByte (stackAddr (s.sp + 1)) := rfl
@[simp] theorem pull8_snd : (pull8 s).2 = s.setSp (s.sp + 1) := rfl

/-! ### push16, pull16 (R129, R130) -/

@[simp] theorem push16_a : (push16 w s).a = s.a := rfl
@[simp] theorem push16_x : (push16 w s).x = s.x := rfl
@[simp] theorem push16_y : (push16 w s).y = s.y := rfl
@[simp] theorem push16_sp : (push16 w s).sp = s.sp - 1 - 1 := rfl
@[simp] theorem push16_pc : (push16 w s).pc = s.pc := rfl
@[simp] theorem push16_p : (push16 w s).p = s.p := rfl
@[simp] theorem push16_runState : (push16 w s).runState = s.runState := rfl
@[simp] theorem push16_fault : (push16 w s).fault = s.fault := rfl

theorem push16_readByte (a : Word) :
    (push16 w s).readByte a =
      if a = stackAddr (s.sp - 1) then loByte w
      else if a = stackAddr s.sp then hiByte w else s.readByte a := by
  simp [push16, push8_readByte]

theorem push16_wf {s : State} (h : s.mem.wf) : (push16 w s).mem.wf := push8_wf _ (push8_wf _ h)

@[simp] theorem pull16_fst : (pull16 s).1 =
    wordOf (s.readByte (stackAddr (s.sp + 1 + 1))) (s.readByte (stackAddr (s.sp + 1))) := rfl
@[simp] theorem pull16_snd : (pull16 s).2 = s.setSp (s.sp + 1 + 1) := rfl

/-! ### halt, raise (60_exceptions.md R254) -/

@[simp] theorem halt_eq : halt s = s.setRunState .halted := rfl
@[simp] theorem raise_a : (raise e s).a = s.a := rfl
@[simp] theorem raise_x : (raise e s).x = s.x := rfl
@[simp] theorem raise_y : (raise e s).y = s.y := rfl
@[simp] theorem raise_sp : (raise e s).sp = s.sp := rfl
@[simp] theorem raise_pc : (raise e s).pc = s.pc := rfl
@[simp] theorem raise_p : (raise e s).p = s.p := rfl
@[simp] theorem raise_mem : (raise e s).mem = s.mem := rfl
@[simp] theorem raise_runState : (raise e s).runState = .halted := rfl
@[simp] theorem raise_fault : (raise e s).fault = some e := rfl

end Sys2Proof.Machine
end

