-- ==== Sys2Proof/Laws/Operands.lean ====
section
/-! SUPPORT. What the resolver and the access classes answer, said once for each; an instruction's proof cites these
instead of unfolding its meaning. -/

namespace Sys2Proof.Machine

variable (s : State) (opnd : Operand)

/-- The resolver fails for `NoAddress` alone (40_engine_and_resolver.md R124, 60_exceptions.md R252). -/
theorem resolve_ok {tag : AddressMode} (h : tag ≠ .noAddress) (pcOp : Word) :
    ∃ ea, resolve tag pcOp opnd s = .ok ea := by
  cases tag <;> simp [resolve] at h ⊢

theorem resolve_noAddress (pcOp : Word) :
    resolve .noAddress pcOp opnd s = .error .unsupportedAddressingMode := rfl

/-- An instruction whose tag resolves to `ea` runs its handler there and ends at `pc_next`. -/
theorem withEa_of_resolve {tag : AddressMode} {ea : Word} (h : Word → State → State)
    (hr : resolve tag (s.pc + 1) opnd s = .ok ea) :
    withEa tag opnd h s = .next ((h ea s).setPc (s.pc + opnd.length)) := by
  rw [withEa, hr]

/-- All that an instruction with an effective address can do: it answers a next state, the handler's at the address
the resolver gave. -/
theorem withEa_next {tag : AddressMode} (ht : tag ≠ .noAddress) (h : Word → State → State) :
    ∃ ea, resolve tag (s.pc + 1) opnd s = .ok ea ∧
      withEa tag opnd h s = .next ((h ea s).setPc (s.pc + opnd.length)) := by
  obtain ⟨ea, hea⟩ := resolve_ok s opnd ht (s.pc + 1)
  exact ⟨ea, hea, withEa_of_resolve s opnd h hea⟩

/-- A read-modify-write changes the byte at `ea` and P (R133). -/
theorem modifyByte_readByte (f : Byte → Byte → Byte × Byte) (ea a : Word) :
    (modifyByte f ea s).readByte a =
      if a = ea then (f (s.readByte ea) s.p).1 else s.readByte a := by
  simp [modifyByte, State.readByte_writeByte]

@[simp] theorem modifyByte_a (f : Byte → Byte → Byte × Byte) (ea : Word) : (modifyByte f ea s).a = s.a := rfl
@[simp] theorem modifyByte_x (f : Byte → Byte → Byte × Byte) (ea : Word) : (modifyByte f ea s).x = s.x := rfl
@[simp] theorem modifyByte_y (f : Byte → Byte → Byte × Byte) (ea : Word) : (modifyByte f ea s).y = s.y := rfl
@[simp] theorem modifyByte_sp (f : Byte → Byte → Byte × Byte) (ea : Word) : (modifyByte f ea s).sp = s.sp := rfl
@[simp] theorem modifyByte_pc (f : Byte → Byte → Byte × Byte) (ea : Word) : (modifyByte f ea s).pc = s.pc := rfl
@[simp] theorem modifyByte_p (f : Byte → Byte → Byte × Byte) (ea : Word) :
    (modifyByte f ea s).p = (f (s.readByte ea) s.p).2 := rfl
@[simp] theorem modifyByte_runState (f : Byte → Byte → Byte × Byte) (ea : Word) :
    (modifyByte f ea s).runState = s.runState := rfl
@[simp] theorem modifyByte_fault (f : Byte → Byte → Byte × Byte) (ea : Word) :
    (modifyByte f ea s).fault = s.fault := rfl

theorem modifyByte_wf {s : State} (h : s.mem.wf) (f : Byte → Byte → Byte × Byte) (ea : Word) :
    (modifyByte f ea s).mem.wf := State.writeByte_wf h _ _

/-- An effective address depends on X, Y and memory alone (40_engine_and_resolver.md R114 to R126). -/
theorem resolve_congr {s t : State} (hx : t.x = s.x) (hy : t.y = s.y) (hm : t.mem = s.mem)
    (tag : AddressMode) (pcOp : Word) : resolve tag pcOp opnd t = resolve tag pcOp opnd s := by
  cases tag <;> simp [resolve, eaZeroPageX, eaZeroPageY, eaAbsoluteX, eaAbsoluteY, eaIndirectX, eaIndirectY,
    State.zpWord, State.readByte, hx, hy, hm]

@[simp] theorem eaZeroPageX_setP (b v : Byte) : eaZeroPageX b (s.setP v) = eaZeroPageX b s := rfl
@[simp] theorem eaZeroPageY_setP (b v : Byte) : eaZeroPageY b (s.setP v) = eaZeroPageY b s := rfl
@[simp] theorem eaAbsoluteX_setP (w : Word) (v : Byte) : eaAbsoluteX w (s.setP v) = eaAbsoluteX w s := rfl
@[simp] theorem eaAbsoluteY_setP (w : Word) (v : Byte) : eaAbsoluteY w (s.setP v) = eaAbsoluteY w s := rfl
@[simp] theorem eaIndirectX_setP (b v : Byte) : eaIndirectX b (s.setP v) = eaIndirectX b s := rfl
@[simp] theorem eaIndirectY_setP (b v : Byte) : eaIndirectY b (s.setP v) = eaIndirectY b s := rfl

/-- The branch offset of R6 and R204: at `pc_next` plus the signed offset, modulo 65 536. -/
theorem sext16_eq (b : Byte) :
    sext16 b = if b.toNat < 128 then zext16 b else zext16 b + 0xFF00 := by
  revert b
  decide

end Sys2Proof.Machine
end

