-- ==== Sys2Proof/Laws/Step.lean ====
section
/-! SUPPORT. What one step can do, said once. -/

namespace Sys2Proof.Machine

/-- A halted engine has no step: the state stays (40_engine_and_resolver.md R110, 70_reset_and_hazards.md R286). -/
theorem engineStep_halted (cfg : Config) {s : State} (h : s.runState = .halted) :
    engineStep cfg s = .next s := by
  simp [engineStep, h]

/-- A running engine runs the instruction it fetches. -/
theorem engineStep_exec {cfg : Config} {s : State} {i : Instr} (h : s.runState = .running)
    (hf : fetchInstr cfg s = .ok i) : engineStep cfg s = exec i s := by
  simp [engineStep, h, hf]

/-- A running engine that fetches no instruction raises the error with PC past the byte (R111, R255). -/
theorem engineStep_raise {cfg : Config} {s : State} {e : StepError} (h : s.runState = .running)
    (hf : fetchInstr cfg s = .error e) :
    engineStep cfg s = .next (raise e (s.setPc (s.pc + 1))) := by
  simp [engineStep, h, hf]

/-- The one error a fetch can give is `UnknownOpcode` of the byte at PC (R111). -/
theorem fetchInstr_error {cfg : Config} {s : State} {e : StepError}
    (h : fetchInstr cfg s = .error e) : e = .unknownOpcode (s.readByte s.pc) := by
  unfold fetchInstr at h
  split at h
  · exact (Except.error.inj h).symm
  · split at h
    · cases h
    · exact (Except.error.inj h).symm

/-- All that a step can do: nothing (Halted), one instruction, or one raise of `UnknownOpcode`. -/
theorem engineStep_cases (cfg : Config) (s : State) :
    (s.runState = .halted ∧ engineStep cfg s = .next s) ∨
    (s.runState = .running ∧ ∃ i, fetchInstr cfg s = .ok i ∧ engineStep cfg s = exec i s) ∨
    (s.runState = .running ∧ fetchInstr cfg s = .error (.unknownOpcode (s.readByte s.pc)) ∧
      engineStep cfg s =
        .next (raise (.unknownOpcode (s.readByte s.pc)) (s.setPc (s.pc + 1)))) := by
  cases hr : s.runState with
  | halted => exact .inl ⟨rfl, engineStep_halted cfg hr⟩
  | running =>
    cases hf : fetchInstr cfg s with
    | ok i => exact .inr (.inl ⟨rfl, i, rfl, engineStep_exec hr hf⟩)
    | error e =>
      obtain rfl := fetchInstr_error hf
      exact .inr (.inr ⟨rfl, rfl, engineStep_raise hr hf⟩)

/-- `State.reset` is `new` followed by `reset` (70_reset_and_hazards.md R280, R283). -/
theorem reset_eq_hostReset_hostNew : State.reset = hostReset .default (hostNew .default) := by
  decide

end Sys2Proof.Machine
end

