-- ==== Sys2Proof/Tests/Slice0.lean ====
section
/-! SUPPORT. The model's own tests. The expected results come from spec/95_test_vectors.md (the ids V<n>, H<n>), from the
encoding tables of 30_encoding.md and from the rules named; none comes from the model. After them, for each
obligation with hypotheses, a state and operands that meet all of them. -/

namespace Sys2Proof.Tests

open Sys2Proof.Machine Sys2Proof.Claims

/-! ### WellFormed: for each check, a term it refuses -/

theorem test_wellFormed_no_handler : Instr.wellFormed .sourceStated .nop = false := by decide
theorem test_wellFormed_handler : Instr.wellFormed .sourceStated (.ldaImm 0x00) = true := by decide
theorem test_codesWellFormed_duplicate : codesWellFormed [0x69, 0x65, 0x69] = false := by decide

theorem test_imageFits_one_too_long : imageFits (List.replicate 0x8001 0xEA) = false := by
  rw [imageFits, List.length_replicate]
  decide

theorem test_imageFits_largest : imageFits (List.replicate 0x8000 0xEA) = true := by
  rw [imageFits, List.length_replicate]
  decide

/-! ### Decoding: words written out from 30_encoding.md R90 -/

/-- LDA, STX and TAX: 0xA9 and the STX byte 0x96 of R90 and 90_conflicts.md C2. -/
theorem test_decode_load_store :
    decode [0b10101001#8, 0x42] = .instr (.ldaImm 0x42) [] ∧
    decode [0b10010110#8, 0xF0] = .instr (.stxZpY 0xF0) [] ∧
    decode [0b10101010#8] = .instr .tax [] := by decide

/-- ADC is 0x69 and AND is 0x29 (C2), CMP (b,X) is 0xC1, INC w,X is 0xFE; the low operand byte comes first (R80). -/
theorem test_decode_arithmetic :
    decode [0b01101001#8, 0x01] = .instr (.adcImm 0x01) [] ∧
    decode [0b00101001#8, 0x3C] = .instr (.andImm 0x3C) [] ∧
    decode [0b11000001#8, 0x20] = .instr (.cmpIndX 0x20) [] ∧
    decode [0b11111110#8, 0x34, 0x12] = .instr (.incAbsX 0x1234) [] := by decide

theorem test_decode_shift :
    decode [0b01001010#8] = .instr .lsrAcc [] ∧
    decode [0b01111110#8, 0xFF, 0x02] = .instr (.rorAbsX 0x02FF) [] := by decide

/-- RTS is 0x60 and SEI is 0x78 (C2). -/
theorem test_decode_control_system :
    decode [0b01101100#8, 0xFF, 0x02] = .instr (.jmpInd 0x02FF) [] ∧
    decode [0b01100000#8, 0xAA] = .instr .rts [0xAA] ∧
    decode [0b11110000#8, 0x80] = .instr (.beq 0x80) [] ∧
    decode [0b01111000#8] = .instr .sei [] := by decide

theorem test_decode_refuses :
    decode [0x89, 0x00] = .bad (.unknownOpcode 0x89) ∧ decode [0x20, 0x10] = .bad .truncated ∧
    decode [] = .bad .truncated := by decide

theorem test_decodeTableWord :
    decodeTableWord 8 0xA9 = some (.ldaImm 0x00) ∧ decodeTableWord 24 0x1234AD = some (.ldaAbs 0x1234) ∧
    decodeTableWord 8 0x02 = none := by decide

theorem test_withFetchWord :
    step (State.reset.withFetchWord 8 0xE8) = exec .inx (State.reset.withFetchWord 8 0xE8) ∧
    step (State.reset.withFetchWord 16 0x5AA9) =
      exec (.ldaImm 0x5A) (State.reset.withFetchWord 16 0x5AA9) := ⟨rfl, rfl⟩

/-! ### The vectors of 95_test_vectors.md, one step each -/

/-- The state of section 0 of that file: `new`, `load bytes`, `reset`, then the host's writes of `cells`. -/
def start (bytes : List Byte) (cells : List (Word × Byte)) : State :=
  match hostLoad bytes (hostNew .default) with
  | .ok t => cells.foldl (fun s c => s.writeByte c.1 c.2) (hostReset .default t)
  | .error _ => State.reset

/-- The state after one step. -/
def after (s : State) : State :=
  match step s with
  | .next t => t
  | .fault _ => s
  | .refused _ => s

/-- V2 (R116): ZeroPageX wraps in page 0: 0x80+0xFF -> 0x7F, not 0x017F. -/
theorem test_V2_lda :
    let t := after ({ start [0xB5, 0x80] [(0x007F, 0x11), (0x017F, 0x22)] with x := 0xFF })
    t.a = 0x11 ∧ t.p = 0x24 ∧ t.pc = 0x8002 := by decide

/-- V3 (R117, R141): ZeroPageY wraps: 0xFF+1 -> 0x00. -/
theorem test_V3_ldx :
    let t := after ({ start [0xB6, 0xFF] [(0x0000, 0x33), (0x0100, 0x44)] with y := 0x01 })
    t.x = 0x33 ∧ t.p = 0x24 ∧ t.pc = 0x8002 := by decide

/-- V5 (R119): AbsoluteX crosses a page: 0x12FF+1 -> 0x1300. -/
theorem test_V5_lda :
    let t := after ({ start [0xBD, 0xFF, 0x12] [(0x1300, 0x7F)] with x := 0x01 })
    t.a = 0x7F ∧ t.p = 0x24 ∧ t.pc = 0x8003 := by decide

/-- V6 (R120): AbsoluteY wraps modulo 65 536: 0xFFFF+2 -> 0x0001. -/
theorem test_V6_lda :
    let t := after ({ start [0xB9, 0xFF, 0xFF] [(0x0001, 0x99)] with y := 0x02 })
    t.a = 0x99 ∧ t.p = 0xA4 ∧ t.pc = 0x8003 := by decide

/-- V8 (R121, R122): pointer 0xFF: high byte from 0x0000, not 0x0100. -/
theorem test_V8_lda :
    let t := after ({ start [0xA1, 0xFE] [(0x0000, 0x12), (0x00FF, 0x34), (0x0100, 0x56), (0x1234, 0xCD), (0x5634, 0xEE)] with x := 0x01 })
    t.a = 0xCD ∧ t.p = 0xA4 ∧ t.pc = 0x8002 := by decide

/-- V9 (R122): p+X wraps: 0xFF+2 -> pointer 0x01. -/
theorem test_V9_lda :
    let t := after ({ start [0xA1, 0xFF] [(0x0001, 0x00), (0x0002, 0x40), (0x4000, 0x01)] with x := 0x02 })
    t.a = 0x01 ∧ t.p = 0x24 ∧ t.pc = 0x8002 := by decide

/-- V11 (R121, R123): pointer 0xFF wraps; base 0xFFFF+1 -> 0x0000, whose content 0xFF is loaded. -/
theorem test_V11_lda :
    let t := after ({ start [0xB1, 0xFF] [(0x0000, 0xFF), (0x00FF, 0xFF), (0x0100, 0x00)] with y := 0x01 })
    t.a = 0xFF ∧ t.p = 0xA4 ∧ t.pc = 0x8002 := by decide

/-- V21 (R140): Z and N cleared, others kept. -/
theorem test_V21_lda :
    let t := after ({ start [0xA9, 0x7F] [] with p := 0xA6 })
    t.a = 0x7F ∧ t.p = 0x24 ∧ t.pc = 0x8002 := by decide

/-- V22 (R141). -/
theorem test_V22_ldx :
    let t := after (start [0xA2, 0xFF] [])
    t.x = 0xFF ∧ t.p = 0xA4 ∧ t.pc = 0x8002 := by decide

/-- V23 (R142): Z set, N cleared. -/
theorem test_V23_ldy :
    let t := after ({ start [0xA0, 0x00] [] with y := 0x55, p := 0xA4 })
    t.y = 0x00 ∧ t.p = 0x26 ∧ t.pc = 0x8002 := by decide

/-- V24 (R143): store of 0 leaves Z clear. -/
theorem test_V24_sta :
    let t := after ({ start [0x85, 0x10] [] with a := 0x00, p := 0x24 })
    t.p = 0x24 ∧ t.pc = 0x8002 := by decide

/-- V25 (R143, R119): AbsoluteX store. -/
theorem test_V25_sta :
    let t := after ({ start [0x9D, 0xFF, 0x01] [] with a := 0xAA, x := 0x01 })
    t.p = 0x24 ∧ t.pc = 0x8003 ∧ t.readByte 0x0200 = 0xAA := by decide

/-- V26 (R143, R123): IndirectY store, 0x0201+0xFF -> 0x0300. -/
theorem test_V26_sta :
    let t := after ({ start [0x91, 0x10] [(0x0010, 0x01), (0x0011, 0x02)] with a := 0x55, y := 0xFF })
    t.p = 0x24 ∧ t.pc = 0x8002 ∧ t.readByte 0x0300 = 0x55 := by decide

/-- V27 (R144, R117): STX ZeroPageY wraps: 0xF0+0x20 -> 0x10. -/
theorem test_V27_stx :
    let t := after ({ start [0x96, 0xF0] [] with x := 0x3C, y := 0x20 })
    t.p = 0x24 ∧ t.pc = 0x8002 ∧ t.readByte 0x0010 = 0x3C := by decide

/-- V28 (R145): flags untouched. -/
theorem test_V28_sty :
    let t := after ({ start [0x8C, 0x00, 0x02] [] with y := 0x80 })
    t.p = 0x24 ∧ t.pc = 0x8003 ∧ t.readByte 0x0200 = 0x80 := by decide

/-- V29 (R146): Z set. -/
theorem test_V29_tax :
    let t := after ({ start [0xAA] [] with a := 0x00, x := 0x55 })
    t.x = 0x00 ∧ t.p = 0x26 ∧ t.pc = 0x8001 := by decide

/-- V30 (R147). -/
theorem test_V30_tay :
    let t := after ({ start [0xA8] [] with a := 0xFF })
    t.y = 0xFF ∧ t.p = 0xA4 ∧ t.pc = 0x8001 := by decide

/-- V31 (R148). -/
theorem test_V31_txa :
    let t := after ({ start [0x8A] [] with x := 0x80 })
    t.a = 0x80 ∧ t.p = 0xA4 ∧ t.pc = 0x8001 := by decide

/-- V32 (R149): Z set. -/
theorem test_V32_tya :
    let t := after ({ start [0x98] [] with a := 0x01, y := 0x00 })
    t.a = 0x00 ∧ t.p = 0x26 ∧ t.pc = 0x8001 := by decide

/-- V33 (R150): TSX sets N from SP = 0xFD. -/
theorem test_V33_tsx :
    let t := after (start [0xBA] [])
    t.x = 0xFD ∧ t.p = 0xA4 ∧ t.pc = 0x8001 := by decide

/-- V34 (R151): TXS writes no flag although X = 0. -/
theorem test_V34_txs :
    let t := after ({ start [0x9A] [] with x := 0x00, p := 0x24 })
    t.sp = 0x00 ∧ t.p = 0x24 ∧ t.pc = 0x8001 := by decide

/-- V41 (R160): carry-in causes overflow. -/
theorem test_V41_adc :
    let t := after ({ start [0x69, 0x00] [] with a := 0x7F, p := 0x25 })
    t.a = 0x80 ∧ t.p = 0xE4 ∧ t.pc = 0x8002 := by decide

/-- V45 (R160): D set: still binary; V cleared. -/
theorem test_V45_adc :
    let t := after ({ start [0x69, 0x10] [] with a := 0x50, p := 0x6C })
    t.a = 0x60 ∧ t.p = 0x2C ∧ t.pc = 0x8002 := by decide

/-- V49 (R161): -128 - 1 overflows. -/
theorem test_V49_sbc :
    let t := after ({ start [0xE9, 0x01] [] with a := 0x80, p := 0x25 })
    t.a = 0x7F ∧ t.p = 0x65 ∧ t.pc = 0x8002 := by decide

/-- V52 (R161): D set: binary, 0x10 - 0x09 = 0x07. -/
theorem test_V52_sbc :
    let t := after ({ start [0xE9, 0x09] [] with a := 0x10, p := 0x2D })
    t.a = 0x07 ∧ t.p = 0x2D ∧ t.pc = 0x8002 := by decide

/-- V60 (R162): Z set. -/
theorem test_V60_and :
    let t := after ({ start [0x29, 0x0F] [] with a := 0xF0 })
    t.a = 0x00 ∧ t.p = 0x26 ∧ t.pc = 0x8002 := by decide

/-- V61 (R163). -/
theorem test_V61_ora :
    let t := after ({ start [0x09, 0x80] [] with a := 0x01 })
    t.a = 0x81 ∧ t.p = 0xA4 ∧ t.pc = 0x8002 := by decide

/-- V63 (R164): C and V untouched. -/
theorem test_V63_eor :
    let t := after ({ start [0x49, 0xFF] [] with a := 0x0F, p := 0x65 })
    t.a = 0xF0 ∧ t.p = 0xE5 ∧ t.pc = 0x8002 := by decide

/-- V65 (R165): less: N from 0xF0, C clear. -/
theorem test_V65_cmp :
    let t := after ({ start [0xC9, 0x20] [] with a := 0x10 })
    t.p = 0xA4 ∧ t.pc = 0x8002 := by decide

/-- V66 (R165): 0x80 >= 0x01 unsigned: C set, N clear (0x7F), V untouched. -/
theorem test_V66_cmp :
    let t := after ({ start [0xC9, 0x01] [] with a := 0x80, p := 0x64 })
    t.p = 0x65 ∧ t.pc = 0x8002 := by decide

/-- V68 (R166). -/
theorem test_V68_cpx :
    let t := after ({ start [0xE0, 0x00] [] with x := 0x00 })
    t.p = 0x27 ∧ t.pc = 0x8002 := by decide

/-- V69 (R167): 1 - 0x81 = 0x80: N set, C clear. -/
theorem test_V69_cpy :
    let t := after ({ start [0xC0, 0x81] [] with y := 0x01 })
    t.p = 0xA4 ∧ t.pc = 0x8002 := by decide

/-- V70 (R168): N and V from the operand, Z from A and M. -/
theorem test_V70_bit :
    let t := after ({ start [0x24, 0x10] [(0x0010, 0xC0)] with a := 0x01 })
    t.p = 0xE6 ∧ t.pc = 0x8002 := by decide

/-- V71 (R168): N and V cleared from the operand; A unchanged. -/
theorem test_V71_bit :
    let t := after ({ start [0x2C, 0x00, 0x02] [(0x0200, 0x3F)] with a := 0xFF, p := 0xE4 })
    t.p = 0x24 ∧ t.pc = 0x8003 := by decide

/-- V80 (R169): wraps to 0, Z set, C untouched. -/
theorem test_V80_inc :
    let t := after (start [0xE6, 0x10] [(0x0010, 0xFF)])
    t.p = 0x26 ∧ t.pc = 0x8002 ∧ t.readByte 0x0010 = 0x00 := by decide

/-- V81 (R169, R119): 0x7F -> 0x80: N set, V untouched. -/
theorem test_V81_inc :
    let t := after ({ start [0xFE, 0x00, 0x02] [(0x0205, 0x7F)] with x := 0x05 })
    t.p = 0xA4 ∧ t.pc = 0x8003 ∧ t.readByte 0x0205 = 0x80 := by decide

/-- V82 (R170): wraps to 0xFF. -/
theorem test_V82_dec :
    let t := after (start [0xC6, 0x10] [(0x0010, 0x00)])
    t.p = 0xA4 ∧ t.pc = 0x8002 ∧ t.readByte 0x0010 = 0xFF := by decide

/-- V84 (R171): source example: wrap, Z set, N clear. -/
theorem test_V84_inx :
    let t := after ({ start [0xE8] [] with x := 0xFF })
    t.x = 0x00 ∧ t.p = 0x26 ∧ t.pc = 0x8001 := by decide

/-- V86 (R172). -/
theorem test_V86_iny :
    let t := after ({ start [0xC8] [] with y := 0xFF })
    t.y = 0x00 ∧ t.p = 0x26 ∧ t.pc = 0x8001 := by decide

/-- V87 (R173): wraps to 0xFF. -/
theorem test_V87_dex :
    let t := after ({ start [0xCA] [] with x := 0x00 })
    t.x = 0xFF ∧ t.p = 0xA4 ∧ t.pc = 0x8001 := by decide

/-- V88 (R174): Z set. -/
theorem test_V88_dey :
    let t := after ({ start [0x88] [] with y := 0x01 })
    t.y = 0x00 ∧ t.p = 0x26 ∧ t.pc = 0x8001 := by decide

/-- V91 (R190): old C is not shifted in. -/
theorem test_V91_asl :
    let t := after ({ start [0x0A] [] with a := 0x40, p := 0x25 })
    t.a = 0x80 ∧ t.p = 0xA4 ∧ t.pc = 0x8001 := by decide

/-- V92 (R190): memory form; A unchanged. -/
theorem test_V92_asl :
    let t := after (start [0x06, 0x10] [(0x0010, 0xFF)])
    t.p = 0xA5 ∧ t.pc = 0x8002 ∧ t.readByte 0x0010 = 0xFE := by decide

/-- V93 (R191): bit 0 to C, result 0; N always 0. -/
theorem test_V93_lsr :
    let t := after ({ start [0x4A] [] with a := 0x01 })
    t.a = 0x00 ∧ t.p = 0x27 ∧ t.pc = 0x8001 := by decide

/-- V95 (R192): C in to bit 0, bit 7 out. -/
theorem test_V95_rol :
    let t := after ({ start [0x2A] [] with a := 0x80, p := 0x25 })
    t.a = 0x01 ∧ t.p = 0x25 ∧ t.pc = 0x8001 := by decide

/-- V97 (R192, R116). -/
theorem test_V97_rol :
    let t := after ({ start [0x36, 0x10] [(0x0011, 0x40)] with x := 0x01, p := 0x25 })
    t.p = 0xA4 ∧ t.pc = 0x8002 ∧ t.readByte 0x0011 = 0x81 := by decide

/-- V99 (R193): C in to bit 7: N set. -/
theorem test_V99_ror :
    let t := after ({ start [0x6A] [] with a := 0x00, p := 0x25 })
    t.a = 0x80 ∧ t.p = 0xA4 ∧ t.pc = 0x8001 := by decide

/-- V100 (R193, R119). -/
theorem test_V100_ror :
    let t := after ({ start [0x7E, 0xFF, 0x02] [(0x0300, 0x03)] with x := 0x01, p := 0x25 })
    t.p = 0xA5 ∧ t.pc = 0x8003 ∧ t.readByte 0x0300 = 0x81 := by decide

/-- V110 (R200). -/
theorem test_V110_jmp :
    let t := after (start [0x4C, 0x34, 0x12] [])
    t.p = 0x24 ∧ t.pc = 0x1234 := by decide

/-- V113 (R201): page-wrap of the pointer. -/
theorem test_V113_jmp :
    let t := after (start [0x6C, 0xFF, 0x02] [(0x0200, 0x12), (0x02FF, 0x34), (0x0300, 0x56)])
    t.p = 0x24 ∧ t.pc = 0x1234 := by decide

/-- V116 (R202, R127): SP wraps 0x00 -> 0xFF -> 0xFE. -/
theorem test_V116_jsr :
    let t := after ({ start [0x20, 0x00, 0x90] [] with sp := 0x00 })
    t.sp = 0xFE ∧ t.p = 0x24 ∧ t.pc = 0x9000 ∧ t.readByte 0x0100 = 0x80 ∧ t.readByte 0x01FF = 0x02 := by decide

/-- V118 (R203, R128): SP wraps 0xFF -> 0x00 -> 0x01; 0xFFFF+1 -> 0x0000. -/
theorem test_V118_rts :
    let t := after ({ start [0x60] [(0x0100, 0xFF), (0x0101, 0xFF)] with sp := 0xFF })
    t.sp = 0x01 ∧ t.p = 0x24 ∧ t.pc = 0x0000 := by decide

/-- V120 (R205): taken. -/
theorem test_V120_bcc :
    let t := after ({ start [0x90, 0x02] [] with p := 0x24 })
    t.p = 0x24 ∧ t.pc = 0x8004 := by decide

/-- V121 (R205): not taken. -/
theorem test_V121_bcc :
    let t := after ({ start [0x90, 0x02] [] with p := 0x25 })
    t.p = 0x25 ∧ t.pc = 0x8002 := by decide

/-- V122 (R206): most negative offset: 0x8002 - 128. -/
theorem test_V122_bcs :
    let t := after ({ start [0xB0, 0x80] [] with p := 0x25 })
    t.p = 0x25 ∧ t.pc = 0x7F82 := by decide

/-- V123 (R207): most positive offset. -/
theorem test_V123_beq :
    let t := after ({ start [0xF0, 0x7F] [] with p := 0x26 })
    t.p = 0x26 ∧ t.pc = 0x8081 := by decide

/-- V124 (R208): branch to itself. -/
theorem test_V124_bne :
    let t := after ({ start [0xD0, 0xFE] [] with p := 0x24 })
    t.p = 0x24 ∧ t.pc = 0x8000 := by decide

/-- V126 (R209): taken. -/
theorem test_V126_bmi :
    let t := after ({ start [0x30, 0x05] [] with p := 0xA4 })
    t.p = 0xA4 ∧ t.pc = 0x8007 := by decide

/-- V127 (R210): not taken. -/
theorem test_V127_bpl :
    let t := after ({ start [0x10, 0x05] [] with p := 0xA4 })
    t.p = 0xA4 ∧ t.pc = 0x8002 := by decide

/-- V128 (R211): lands one byte before the branch. -/
theorem test_V128_bvc :
    let t := after ({ start [0x50, 0xFD] [] with p := 0x24 })
    t.p = 0x24 ∧ t.pc = 0x7FFF := by decide

/-- V129 (R212): taken. -/
theorem test_V129_bvs :
    let t := after ({ start [0x70, 0x10] [] with p := 0x64 })
    t.p = 0x64 ∧ t.pc = 0x8012 := by decide

/-- V140 (R220): flags untouched. -/
theorem test_V140_pha :
    let t := after ({ start [0x48] [] with a := 0x5A })
    t.sp = 0xFC ∧ t.p = 0x24 ∧ t.pc = 0x8001 ∧ t.readByte 0x01FD = 0x5A := by decide

/-- V141 (R220, R127): SP wraps to 0xFF; write at 0x0100. -/
theorem test_V141_pha :
    let t := after ({ start [0x48] [] with a := 0x11, sp := 0x00 })
    t.sp = 0xFF ∧ t.p = 0x24 ∧ t.pc = 0x8001 ∧ t.readByte 0x0100 = 0x11 := by decide

/-- V143 (R221). -/
theorem test_V143_php :
    let t := after ({ start [0x08] [] with p := 0xC3 })
    t.sp = 0xFC ∧ t.p = 0xC3 ∧ t.pc = 0x8001 ∧ t.readByte 0x01FD = 0xF3 := by decide

/-- V145 (R222, R128): SP wraps 0xFF -> 0x00; N set. -/
theorem test_V145_pla :
    let t := after ({ start [0x68] [(0x0100, 0x80)] with sp := 0xFF })
    t.a = 0x80 ∧ t.sp = 0x00 ∧ t.p = 0xA4 ∧ t.pc = 0x8001 := by decide

/-- V146 (R223): bits 4 and 5 keep P's old values (0 and 1). -/
theorem test_V146_plp :
    let t := after ({ start [0x28] [(0x01FD, 0xFF)] with sp := 0xFC, p := 0x24 })
    t.sp = 0xFD ∧ t.p = 0xEF ∧ t.pc = 0x8001 := by decide

/-- V147 (R223): bits 4 and 5 stay 1 and 1. -/
theorem test_V147_plp :
    let t := after ({ start [0x28] [(0x01FD, 0x00)] with sp := 0xFC, p := 0x34 })
    t.sp = 0xFD ∧ t.p = 0x30 ∧ t.pc = 0x8001 := by decide

/-- V148 (R224). -/
theorem test_V148_clc :
    let t := after ({ start [0x18] [] with p := 0xFF })
    t.p = 0xFE ∧ t.pc = 0x8001 := by decide

/-- V149 (R225). -/
theorem test_V149_sec :
    let t := after ({ start [0x38] [] with p := 0x00 })
    t.p = 0x01 ∧ t.pc = 0x8001 := by decide

/-- V150 (R226). -/
theorem test_V150_cli :
    let t := after ({ start [0x58] [] with p := 0x24 })
    t.p = 0x20 ∧ t.pc = 0x8001 := by decide

/-- V151 (R227): 0x78, not 0x60 (C2). -/
theorem test_V151_sei :
    let t := after ({ start [0x78] [] with p := 0x20 })
    t.p = 0x24 ∧ t.pc = 0x8001 := by decide

/-- V152 (R228). -/
theorem test_V152_cld :
    let t := after ({ start [0xD8] [] with p := 0x2C })
    t.p = 0x24 ∧ t.pc = 0x8001 := by decide

/-- V153 (R229). -/
theorem test_V153_sed :
    let t := after ({ start [0xF8] [] with p := 0x24 })
    t.p = 0x2C ∧ t.pc = 0x8001 := by decide

/-- V154 (R230). -/
theorem test_V154_clv :
    let t := after ({ start [0xB8] [] with p := 0x64 })
    t.p = 0x24 ∧ t.pc = 0x8001 := by decide

/-- V155 (R231): nothing but PC. -/
theorem test_V155_nop :
    let t := after (start [0xEA] [])
    t.p = 0x24 ∧ t.pc = 0x8001 := by decide

/-- V156 (R232): halts; PC = address + 1; SP, P, memory unchanged. -/
theorem test_V156_brk :
    let t := after (start [0x00] [])
    t.p = 0x24 ∧ t.pc = 0x8001 ∧ t.runState = .halted ∧ t.fault = none := by decide

/-- V157 (R233): no +1 on the pulled PC; bits 4, 5 kept. -/
theorem test_V157_rti :
    let t := after ({ start [0x40] [(0x01FB, 0xC3), (0x01FC, 0x34), (0x01FD, 0x12)] with sp := 0xFA, p := 0x24 })
    t.sp = 0xFD ∧ t.p = 0xE3 ∧ t.pc = 0x1234 := by decide

/-- V160 (R251, R254): uncataloged byte. -/
theorem test_V160_unknown :
    let t := after (start [0x02] [])
    t.p = 0x24 ∧ t.pc = 0x8001 ∧ t.runState = .halted ∧ t.fault = some (.unknownOpcode 0x02) := by decide

/-- V161 (R251, R255): nothing but PC, run_state, fault changes. -/
theorem test_V161_unknown :
    let t := after ({ start [0xFF] [] with a := 0x12, p := 0xE5 })
    t.p = 0xE5 ∧ t.pc = 0x8001 ∧ t.runState = .halted ∧ t.fault = some (.unknownOpcode 0xFF) := by decide

/-- V130 (R204, R208): a branch at 0xFFFE wraps. -/
theorem test_V130_bne :
    (after { start [] [(0xFFFE, 0xD0), (0xFFFF, 0x10)] with pc := 0xFFFE }).pc = 0x0010 := by decide

/-- H1 (70_reset_and_hazards.md R280): P is 0x00 after `new`. -/
theorem test_H1 : (hostNew .default).p = 0x00 ∧ (hostNew .default).runState = .halted := by decide

/-- H2 (R281, R283): after an empty image a step fetches the BRK of the zero memory. -/
theorem test_H2 :
    (start [] []).pc = 0x8000 ∧ (after (start [] [])).pc = 0x8001 ∧
    (after (start [] [])).runState = .halted := by decide

/-- H5 (R283, R288): `reset` before any `load`. -/
theorem test_H5 : (after State.reset).pc = 0x0001 ∧ (after State.reset).runState = .halted := by decide

/-- H6 (R284): `run` of a halted core succeeds at once. -/
theorem test_H6 : hostRun .default 0 (hostNew .default) = some (.ok (), hostNew .default) := rfl

/-- H4 and H11 (R282, R285): a program one byte too long is refused, and nothing is written. -/
theorem test_H11 (s : State) :
    hostLoadAndRun .default 5 (List.replicate 0x8001 0xEA) s = some (.error .programTooLarge, s) := by
  rw [hostLoadAndRun, hostLoad, test_imageFits_one_too_long]
  rfl

/-- P7 of section 3, its last step: `run` reports the recorded error (10_state.md R30). -/
theorem test_P7_report : runResult (after (start [0x02] [])) = .error (.step (.unknownOpcode 0x02)) := rfl

/-! ### Witnesses: a state and operands that meet the hypotheses of each obligation that has some -/

/-- For `Obligations.StepRunsDecodedInstruction`, with the operand bytes wrapping past 0xFFFF. -/
theorem witness_StepRunsDecodedInstruction :
    let s := { start [] [(0xFFFF, 0xAD), (0x0000, 0x34), (0x0001, 0x12)] with pc := 0xFFFF }
    s.runState = .running ∧ decode (s.bytesAt s.pc 3) = .instr (.ldaAbs 0x1234) [] ∧
    Instr.wellFormed .default (.ldaAbs 0x1234) = true := by decide

/-- For `Obligations.EncodeDecodeRoundTrip`. -/
theorem witness_EncodeDecodeRoundTrip :
    decode [0x6C, 0xFF, 0x02, 0xEA] = .instr (.jmpInd 0x02FF) [0xEA] := by decide

/-- For `Obligations.UnknownOpcodeHaltsPrecisely`: a byte with no entry. -/
theorem witness_UnknownOpcodeHaltsPrecisely_no_entry :
    let s := start [0x02] []
    s.runState = .running ∧
    ∀ r, catalogGet (s.readByte s.pc) = some r → Config.default.implements r.desc.mnemonic = false := by
  refine ⟨rfl, fun r hr => ?_⟩
  have hn : (catalogGet ((start [0x02] []).readByte (start [0x02] []).pc)).isSome = false := by decide
  rw [hr] at hn
  cases hn

/-- For `Obligations.UnknownOpcodeHaltsPrecisely`: an entry whose mnemonic has no handler. -/
theorem witness_UnknownOpcodeHaltsPrecisely_no_handler :
    let s := start [0xEA] []
    s.runState = .running ∧
    ∀ r, catalogGet (s.readByte s.pc) = some r →
      Config.sourceStated.implements r.desc.mnemonic = false := by
  refine ⟨rfl, fun r hr => ?_⟩
  have hm : (catalogGet ((start [0xEA] []).readByte (start [0xEA] []).pc)).map (fun r => r.desc.mnemonic) =
      some .nop := by decide
  rw [hr] at hm
  have hm' : r.desc.mnemonic = .nop := Option.some.inj hm
  rw [hm']
  decide

/-- For `Obligations.HaltedStepChangesNothing`. -/
theorem witness_HaltedStepChangesNothing : (hostNew .default).runState = .halted := rfl

/-- For `Obligations.EngineHaltsOnlyByBrkOrRaise`: the way of a BRK. -/
theorem witness_EngineHaltsOnlyByBrkOrRaise_brk :
    let s := start [0x00] []
    s.runState = .running ∧ step s = .next (after s) ∧ (after s).runState = .halted := ⟨rfl, rfl, rfl⟩

/-- For `Obligations.EngineHaltsOnlyByBrkOrRaise`: the way of an error. -/
theorem witness_EngineHaltsOnlyByBrkOrRaise_raise :
    let s := start [0xFF] []
    s.runState = .running ∧ step s = .next (after s) ∧ (after s).runState = .halted := ⟨rfl, rfl, rfl⟩

/-- For `Obligations.UnsupportedAddressingModeUnreachable`, second clause: a halted state that no run reaches. -/
theorem witness_UnsupportedAddressingModeUnreachable :
    let s := { hostNew .default with fault := some .unsupportedAddressingMode }
    engineStep .default s = .next s ∧ s.fault = some .unsupportedAddressingMode := ⟨rfl, rfl⟩

/-- For `Obligations.StepKeepsInvariant`, with a step that stores. -/
theorem witness_StepKeepsInvariant :
    let s := { start [0x85, 0x10] [] with a := 0x42 }
    s.Inv ∧ engineStep .default s = .next (after s) :=
  ⟨⟨by decide, by decide, by decide⟩, rfl⟩

/-- For `Obligations.LoadCopiesImageAndVector`: the longest program that fits, and the shortest that does not. -/
theorem witness_LoadCopiesImageAndVector :
    (List.replicate 0x8000 (0xEA : Byte)).length ≤ 0x8000 ∧
    0x7FFF < (List.replicate 0x8000 (0xEA : Byte)).length ∧ 0x7FFF ≠ 0x7FFC ∧ 0x7FFF ≠ 0x7FFD ∧
    0x8000 < (List.replicate 0x8001 (0xEA : Byte)).length := by
  rw [List.length_replicate, List.length_replicate]
  decide

/-- For the last clause of `Obligations.LoadCopiesImageAndVector`: an address on each side of an image. -/
theorem witness_LoadCopiesImageAndVector_outside :
    (0x7FFF : Word) ≠ 0xFFFC ∧ (0x7FFF : Word).toNat < 0x8000 ∧
    (0x8002 : Word) ≠ 0xFFFD ∧ 0x8000 + [(0xA9 : Byte), 0x01].length ≤ (0x8002 : Word).toNat := by decide

/-- For `Obligations.LoadThenResetStartsAtLoadBase`. -/
theorem witness_LoadThenResetStartsAtLoadBase :
    ∃ t, hostLoad [0xE8, 0x00] (hostNew .default) = .ok t := ⟨_, rfl⟩

/-- For `Obligations.RunReturnsHaltedWithReport`: a run that succeeds. -/
theorem witness_RunReturnsHaltedWithReport_success :
    hostRun .default 1 State.reset = some (.ok (), after State.reset) := rfl

/-- For `Obligations.RunReturnsHaltedWithReport`: a run that reports an error. -/
theorem witness_RunReturnsHaltedWithReport_error :
    hostRun .default 1 (start [0x02] []) =
      some (.error (.step (.unknownOpcode 0x02)), after (start [0x02] [])) := rfl

/-- For `Obligations.ZpWordWrapsInPageZero`, second clause, at its boundary. -/
theorem witness_ZpWordWrapsInPageZero : (0xFE : Byte) ≠ 0xFF := by decide

/-- For the last clauses of `Obligations.ResolverEffectiveAddresses`: rows of the two forms exist. -/
theorem witness_ResolverEffectiveAddresses :
    (catalog.any fun r => r.desc.form == .immediate) = true ∧
    (catalog.any fun r => r.desc.form == .zeroPageY) = true := by decide

/-- Rows of STA, BIT and INC exist, so that the clauses on their
missing forms (`StoresWriteOneByte`, `BitTestsOperand`, `IncDecMemory`) say something. -/
theorem witness_missing_forms :
    (catalog.any fun r => r.desc.mnemonic == .sta) = true ∧
    (catalog.any fun r => r.desc.mnemonic == .bit) = true ∧
    (catalog.any fun r => r.desc.mnemonic == .inc) = true := by decide

/-- For `Obligations.SetZNWritesZeroAndNegative` and `Obligations.StatusByteLayout`. -/
theorem witness_other_flag : Flag.carry ≠ .zero ∧ Flag.carry ≠ .negative := by decide

/-- For `Obligations.JmpIndirectWrapsInPage`, second clause, at its boundary. -/
theorem witness_JmpIndirectWrapsInPage : (0x02FE : Word).toNat % 256 ≠ 255 := by decide

/-- For the two clauses of `Obligations.BranchesFollowFlags`: a state in which each condition holds, and one in
which it does not. -/
theorem witness_BranchesFollowFlags :
    ∀ f ∈ [Flag.carry, .zero, .negative, .overflow],
      ({ State.reset with p := 0xC3 }).flag f = true ∧ ({ State.reset with p := 0x00 }).flag f = false := by
  decide

/-- For `Obligations.RegistersWrittenOnlyByTheirWriters`: a store from A. -/
theorem witness_RegistersWrittenOnlyByTheirWriters :
    (∃ t, exec (.staZp 0x10) State.reset = .next t) ∧ (Instr.staZp 0x10).mnemonic ∉ regWriters .a :=
  ⟨⟨_, rfl⟩, by decide⟩

/-- For `Obligations.FlagsWrittenOnlyByTheirWriters`: INX and the overflow flag. -/
theorem witness_FlagsWrittenOnlyByTheirWriters :
    (∃ t, exec .inx State.reset = .next t) ∧ Instr.inx.mnemonic ∉ flagWriters .overflow :=
  ⟨⟨_, rfl⟩, by decide⟩

/-- For `Obligations.MemoryWrittenOnlyByWriters`: a read, and an accumulator form. -/
theorem witness_MemoryWrittenOnlyByWriters :
    (∃ t, exec (.ldaZp 0x10) State.reset = .next t) ∧ (Instr.ldaZp 0x10).mnemonic ∉ memWriters ∧
    (∃ t, exec .aslAcc State.reset = .next t) ∧ Instr.aslAcc ∈ [Instr.aslAcc, .lsrAcc, .rolAcc, .rorAcc] :=
  ⟨⟨_, rfl⟩, by decide, ⟨_, rfl⟩, by decide⟩

/-- For `Obligations.PcAdvancesByLength`. -/
theorem witness_PcAdvancesByLength :
    (∃ t, exec (.staAbs 0x0200) State.reset = .next t) ∧
    (Instr.staAbs 0x0200).mnemonic ∉ controlTransfers ∧ Instr.staAbs 0x0200 ≠ .brk :=
  ⟨⟨_, rfl⟩, by decide, by decide⟩

/-- For `Obligations.StoredOnlyFlagsDoNotMatter`: the four stored-only flags all differ. -/
theorem witness_StoredOnlyFlagsDoNotMatter :
    Instr.adcImm 0x01 ≠ .php ∧ (∀ f ∈ readFlags, testFlag 0x3C f = ({ State.reset with p := 0x00 }).flag f) := by
  decide

end Sys2Proof.Tests
end

section
/-! SUPPORT. The state after reset, the status byte, and what a run under fuel returns. -/

namespace Sys2Proof.Proofs

open Sys2Proof.Machine

/-! ### The state after reset -/

/-- Settles O13: memory is empty and no error is recorded. -/
theorem resetMeetsInvariant : Obligations.ResetMeetsInvariant where
  memWf := Memory.wf_nil
  faultHalted h := absurd rfl h
  noUnsupported := Option.some_ne_none _ |>.symm

/-- A memory that lists no cell reads as the byte `new` fills it with. -/
theorem readByte_of_mem_nil {s : State} (h : s.mem = []) (a : Word) : s.readByte a = 0 := by
  rw [State.readByte, h]
  rfl

/-- Settles O14: `new` writes every field out, and `State.reset` is `reset` of it at the defaults. -/
theorem resetStateValues : Obligations.ResetStateValues :=
  ⟨fun _ => ⟨rfl, rfl, rfl, rfl, rfl, rfl, readByte_of_mem_nil rfl, rfl, rfl⟩,
    reset_eq_hostReset_hostNew, rfl, rfl, rfl, rfl, rfl, rfl, readByte_of_mem_nil rfl, rfl, rfl⟩

/-! ### The status byte -/

/-- Settles O26, by the flags of `setZN`. -/
theorem setZNWritesZeroAndNegative : Obligations.SetZNWritesZeroAndNegative := by
  intro v p
  refine ⟨?_, ?_, fun f hz hn => ?_⟩
  · simp [testFlag_setZN]
  · simp [testFlag_setZN, BitVec.msb_eq_getLsbD_last]
  · simp [testFlag_setZN, hz, hn]

/-- A flag as the number 0 or 1 is the binary digit of P at the flag's place (10_state.md R25). -/
theorem testFlag_toNat (p : Byte) (f : Flag) :
    (testFlag p f).toNat = p.toNat / 2 ^ f.bit % 2 :=
  Nat.toNat_testBit p.toNat f.bit

/-- Settles O27: P is the sum of its binary digits, and each flag write is `testFlag_putFlag`. -/
theorem statusByteLayout : Obligations.StatusByteLayout := by
  refine ⟨fun p => ?_, fun p f g b => ⟨?_, fun hne => ?_⟩⟩
  · have hp := p.isLt
    simp only [testFlag_toNat, Flag.bit]
    omega
  · simp
  · simp [hne]

/-! ### A run under fuel -/

section
variable {cfg : Config} {s t : State} {r : Except HostError Unit}

/-- The report of a halted core is success exactly when no error is recorded (10_state.md R30). -/
theorem runResult_eq_ok : runResult s = .ok () ↔ s.fault = none := by
  unfold runResult
  split <;> simp [*]

/-- The report of a halted core is a step's error exactly when that error is recorded (R30). -/
theorem runResult_eq_step (e : StepError) : runResult s = .error (.step e) ↔ s.fault = some e := by
  unfold runResult
  split <;> simp [*]

/-- `ProgramTooLarge` is no report of a run (60_exceptions.md R253). -/
theorem runResult_ne_programTooLarge : runResult s ≠ .error .programTooLarge := by
  unfold runResult
  split <;> simp

/-- A halted core reports at once, whatever the fuel (70_reset_and_hazards.md R284). -/
theorem hostRun_halted (h : s.runState = .halted) (n : Nat) :
    hostRun cfg n s = some (runResult s, s) := by
  cases n <;> simp [hostRun, h]

/-- A running core has no report without fuel. -/
theorem hostRun_zero_running (h : s.runState = .running) : hostRun cfg 0 s = none := by
  simp [hostRun, h]

/-- A running core that returns has made one step and returned from there (R284). -/
theorem hostRun_succ_running (h : s.runState = .running) (n : Nat) :
    hostRun cfg (n + 1) s = some (r, t) ↔
      ∃ u, hostStep cfg s = .next u ∧ hostRun cfg n u = some (r, t) := by
  cases hs : hostStep cfg s <;> simp [hostRun, h, hs]

/-- A run that returns is at a halted state, with that state's report. -/
theorem hostRun_returns {n : Nat} (h : hostRun cfg n s = some (r, t)) :
    t.runState = .halted ∧ r = runResult t := by
  induction n generalizing s <;> cases hs : s.runState
  case zero.running => simp [hostRun_zero_running hs] at h
  case succ.running n ih =>
    obtain ⟨u, -, hu⟩ := (hostRun_succ_running hs n).mp h
    exact ih hu
  case zero.halted | succ.halted =>
    obtain ⟨rfl, rfl⟩ : runResult s = r ∧ s = t := by simpa [hostRun_halted hs] using h
    exact ⟨hs, rfl⟩

/-- More fuel changes nothing about a run that returns. -/
theorem hostRun_add {n : Nat} (k : Nat) (h : hostRun cfg n s = some (r, t)) :
    hostRun cfg (n + k) s = some (r, t) := by
  induction n generalizing s <;> cases hs : s.runState
  case zero.running => simp [hostRun_zero_running hs] at h
  case succ.running n ih =>
    obtain ⟨u, hstep, hu⟩ := (hostRun_succ_running hs n).mp h
    rw [Nat.succ_add]
    exact (hostRun_succ_running hs (n + k)).mpr ⟨u, hstep, ih hu⟩
  case zero.halted | succ.halted => rwa [hostRun_halted hs] at h ⊢

end

/-- Settles O18: the report is `runResult` of the halted state a run returns at. -/
theorem runReturnsHaltedWithReport : Obligations.RunReturnsHaltedWithReport := by
  intro cfg n k s t r h
  obtain ⟨hhalt, rfl⟩ := hostRun_returns h
  exact ⟨hhalt, runResult_eq_ok, runResult_eq_step, runResult_ne_programTooLarge, hostRun_add k h⟩

end Sys2Proof.Proofs
end

section
/-! SUPPORT. The inversion of `exec`: every instruction's meaning is one of the five forms of Operands.lean with
one of the handlers of its mnemonic. The whole-machine rules are proved over these forms and handlers, not over
the 151 constructors of `Instr`. -/

namespace Sys2Proof.Proofs

open Sys2Proof.Machine Sys2Proof.Claims

/-- The handlers of the access class "read", by mnemonic. -/
inductive ReadHandler : Mnemonic → (Byte → State → State) → Prop
  | adc : ReadHandler .adc (intoA adc)
  | sbc : ReadHandler .sbc (intoA sbc)
  | and : ReadHandler .and (intoA andOp)
  | ora : ReadHandler .ora (intoA oraOp)
  | eor : ReadHandler .eor (intoA eorOp)
  | cmp : ReadHandler .cmp handleCmp
  | cpx : ReadHandler .cpx handleCpx
  | cpy : ReadHandler .cpy handleCpy
  | bit : ReadHandler .bit handleBit
  | lda : ReadHandler .lda handleLda
  | ldx : ReadHandler .ldx handleLdx
  | ldy : ReadHandler .ldy handleLdy

/-- The registers of the access class "write", by mnemonic. -/
inductive StoredReg : Mnemonic → Reg → Prop
  | sta : StoredReg .sta .a
  | stx : StoredReg .stx .x
  | sty : StoredReg .sty .y

/-- The operations of 43_shift_rotate.md, on A and on memory. -/
inductive ShiftOp : Mnemonic → (Byte → Byte → Byte × Byte) → Prop
  | asl : ShiftOp .asl asl
  | lsr : ShiftOp .lsr lsr
  | rol : ShiftOp .rol rol
  | ror : ShiftOp .ror ror

/-- The operations of the access class "read-modify-write", by mnemonic. -/
inductive ModifyOp : Mnemonic → (Byte → Byte → Byte × Byte) → Prop
  | inc : ModifyOp .inc increment
  | dec : ModifyOp .dec decrement
  | shift {mn : Mnemonic} {f : Byte → Byte → Byte × Byte} (hf : ShiftOp mn f) : ModifyOp mn f

/-- The instructions that write one flag (45_stack_flags_system.md R224 to R230). -/
inductive FlagOp : Mnemonic → Flag → Bool → Prop
  | clc : FlagOp .clc .carry false
  | sec : FlagOp .sec .carry true
  | cli : FlagOp .cli .interruptDisable false
  | sei : FlagOp .sei .interruptDisable true
  | cld : FlagOp .cld .decimal false
  | sed : FlagOp .sed .decimal true
  | clv : FlagOp .clv .overflow false

/-- The handlers of the one-byte instructions that end at `pc_next`, by mnemonic. -/
inductive ImpliedHandler : Mnemonic → (State → State) → Prop
  | shift {mn : Mnemonic} {f : Byte → Byte → Byte × Byte} (hf : ShiftOp mn f) : ImpliedHandler mn (modifyA f)
  | flag {mn : Mnemonic} {f : Flag} {b : Bool} (hf : FlagOp mn f b) :
      ImpliedHandler mn fun s => s.setP (putFlag s.p f b)
  | inx : ImpliedHandler .inx handleInx
  | iny : ImpliedHandler .iny handleIny
  | dex : ImpliedHandler .dex handleDex
  | dey : ImpliedHandler .dey handleDey
  | tax : ImpliedHandler .tax handleTax
  | tay : ImpliedHandler .tay handleTay
  | txa : ImpliedHandler .txa handleTxa
  | tya : ImpliedHandler .tya handleTya
  | tsx : ImpliedHandler .tsx handleTsx
  | txs : ImpliedHandler .txs handleTxs
  | pha : ImpliedHandler .pha handlePha
  | php : ImpliedHandler .php handlePhp
  | pla : ImpliedHandler .pla handlePla
  | plp : ImpliedHandler .plp pullStatus
  | nop : ImpliedHandler .nop id
  | brk : ImpliedHandler .brk halt

/-- The target and the handler of the control transfers; a branch tests one flag or its complement. -/
inductive Transfer : Mnemonic → (State → Word) → (State → State) → Prop
  | jmpAbs (w : Word) : Transfer .jmp (fun _ => w) id
  | jmpInd (w : Word) : Transfer .jmp (indirectTarget w) id
  | jsr (w : Word) : Transfer .jsr (fun _ => w) fun s => push16 (s.pc + 2) s
  | rts : Transfer .rts (fun s => (pull16 s).1 + 1) fun s => (pull16 s).2
  | rti : Transfer .rti (fun s => (pull16 (pullStatus s)).1) fun s => (pull16 (pullStatus s)).2
  | branch {mn : Mnemonic} {f : Flag} (hf : f ∈ readFlags) (test : Bool → Bool) (off : Byte) :
      Transfer mn (fun s => if test (s.flag f) then s.pc + 2 + sext16 off else s.pc + 2) id

/-- The forms the meaning of an instruction can have (Operands.lean), with the handlers of its mnemonic. -/
inductive ExecForm (mn : Mnemonic) (run : State → Result) : Prop
  | read {h : Byte → State → State} {tag : AddressMode} {opnd : Operand} (hh : ReadHandler mn h)
      (hrun : ∀ s, run s = readForm tag opnd h s) (ht : tag ≠ .noAddress)
  | write {r : Reg} {tag : AddressMode} {opnd : Operand} (hr : StoredReg mn r)
      (hrun : ∀ s, run s = writeForm tag opnd (s.reg r) s) (ht : tag ≠ .noAddress)
  | modify {f : Byte → Byte → Byte × Byte} {tag : AddressMode} {opnd : Operand} (hf : ModifyOp mn f)
      (hrun : ∀ s, run s = modifyForm tag opnd f s) (ht : tag ≠ .noAddress)
  | implied {h : State → State} (hh : ImpliedHandler mn h) (hrun : ∀ s, run s = impliedForm h s)
  | transfer {target : State → Word} {h : State → State} (hh : Transfer mn target h)
      (hrun : ∀ s, run s = transferForm (target s) h s)

/-- Every instruction has one of the forms, with a handler of its mnemonic. -/
theorem exec_form (i : Instr) : ExecForm i.mnemonic (exec i) := by
  unfold exec
  cases i with
  | adcIndX | adcZp | adcImm | adcAbs | adcIndY | adcZpX | adcAbsY | adcAbsX =>
    exact .read .adc (fun _ => rfl) (by decide)
  | sbcIndX | sbcZp | sbcImm | sbcAbs | sbcIndY | sbcZpX | sbcAbsY | sbcAbsX =>
    exact .read .sbc (fun _ => rfl) (by decide)
  | andIndX | andZp | andImm | andAbs | andIndY | andZpX | andAbsY | andAbsX =>
    exact .read .and (fun _ => rfl) (by decide)
  | oraIndX | oraZp | oraImm | oraAbs | oraIndY | oraZpX | oraAbsY | oraAbsX =>
    exact .read .ora (fun _ => rfl) (by decide)
  | eorIndX | eorZp | eorImm | eorAbs | eorIndY | eorZpX | eorAbsY | eorAbsX =>
    exact .read .eor (fun _ => rfl) (by decide)
  | cmpIndX | cmpZp | cmpImm | cmpAbs | cmpIndY | cmpZpX | cmpAbsY | cmpAbsX =>
    exact .read .cmp (fun _ => rfl) (by decide)
  | cpxImm | cpxZp | cpxAbs =>
    exact .read .cpx (fun _ => rfl) (by decide)
  | cpyImm | cpyZp | cpyAbs =>
    exact .read .cpy (fun _ => rfl) (by decide)
  | bitZp | bitAbs =>
    exact .read .bit (fun _ => rfl) (by decide)
  | ldaIndX | ldaZp | ldaImm | ldaAbs | ldaIndY | ldaZpX | ldaAbsY | ldaAbsX =>
    exact .read .lda (fun _ => rfl) (by decide)
  | ldxImm | ldxZp | ldxAbs | ldxZpY | ldxAbsY =>
    exact .read .ldx (fun _ => rfl) (by decide)
  | ldyImm | ldyZp | ldyAbs | ldyZpX | ldyAbsX =>
    exact .read .ldy (fun _ => rfl) (by decide)
  | staIndX | staZp | staAbs | staIndY | staZpX | staAbsY | staAbsX =>
    exact .write .sta (fun _ => rfl) (by decide)
  | stxZp | stxAbs | stxZpY =>
    exact .write .stx (fun _ => rfl) (by decide)
  | styZp | styAbs | styZpX =>
    exact .write .sty (fun _ => rfl) (by decide)
  | incZp | incAbs | incZpX | incAbsX =>
    exact .modify .inc (fun _ => rfl) (by decide)
  | decZp | decAbs | decZpX | decAbsX =>
    exact .modify .dec (fun _ => rfl) (by decide)
  | aslZp | aslAbs | aslZpX | aslAbsX =>
    exact .modify (.shift .asl) (fun _ => rfl) (by decide)
  | lsrZp | lsrAbs | lsrZpX | lsrAbsX =>
    exact .modify (.shift .lsr) (fun _ => rfl) (by decide)
  | rolZp | rolAbs | rolZpX | rolAbsX =>
    exact .modify (.shift .rol) (fun _ => rfl) (by decide)
  | rorZp | rorAbs | rorZpX | rorAbsX =>
    exact .modify (.shift .ror) (fun _ => rfl) (by decide)
  | aslAcc => exact .implied (.shift .asl) fun _ => rfl
  | lsrAcc => exact .implied (.shift .lsr) fun _ => rfl
  | rolAcc => exact .implied (.shift .rol) fun _ => rfl
  | rorAcc => exact .implied (.shift .ror) fun _ => rfl
  | clc => exact .implied (.flag .clc) fun _ => rfl
  | sec => exact .implied (.flag .sec) fun _ => rfl
  | cli => exact .implied (.flag .cli) fun _ => rfl
  | sei => exact .implied (.flag .sei) fun _ => rfl
  | cld => exact .implied (.flag .cld) fun _ => rfl
  | sed => exact .implied (.flag .sed) fun _ => rfl
  | clv => exact .implied (.flag .clv) fun _ => rfl
  | inx => exact .implied .inx fun _ => rfl
  | iny => exact .implied .iny fun _ => rfl
  | dex => exact .implied .dex fun _ => rfl
  | dey => exact .implied .dey fun _ => rfl
  | tax => exact .implied .tax fun _ => rfl
  | tay => exact .implied .tay fun _ => rfl
  | txa => exact .implied .txa fun _ => rfl
  | tya => exact .implied .tya fun _ => rfl
  | tsx => exact .implied .tsx fun _ => rfl
  | txs => exact .implied .txs fun _ => rfl
  | pha => exact .implied .pha fun _ => rfl
  | php => exact .implied .php fun _ => rfl
  | pla => exact .implied .pla fun _ => rfl
  | plp => exact .implied .plp fun _ => rfl
  | nop => exact .implied .nop fun _ => rfl
  | brk => exact .implied .brk fun _ => rfl
  | jmpAbs w => exact .transfer (.jmpAbs w) fun _ => rfl
  | jmpInd w => exact .transfer (.jmpInd w) fun _ => rfl
  | jsr w => exact .transfer (.jsr w) fun _ => rfl
  | rts => exact .transfer .rts fun _ => rfl
  | rti => exact .transfer .rti fun _ => rfl
  | bcs b => exact .transfer (.branch (f := .carry) (by decide) id b) fun _ => rfl
  | bcc b => exact .transfer (.branch (f := .carry) (by decide) not b) fun _ => rfl
  | beq b => exact .transfer (.branch (f := .zero) (by decide) id b) fun _ => rfl
  | bne b => exact .transfer (.branch (f := .zero) (by decide) not b) fun _ => rfl
  | bmi b => exact .transfer (.branch (f := .negative) (by decide) id b) fun _ => rfl
  | bpl b => exact .transfer (.branch (f := .negative) (by decide) not b) fun _ => rfl
  | bvs b => exact .transfer (.branch (f := .overflow) (by decide) id b) fun _ => rfl
  | bvc b => exact .transfer (.branch (f := .overflow) (by decide) not b) fun _ => rfl

end Sys2Proof.Proofs
end

section
/-! SUPPORT. The frame of an instruction (10_state.md R20 to R26): it writes the registers and flags whose table
names its mnemonic, and no other. -/

namespace Sys2Proof.Proofs

open Sys2Proof.Machine

/-- From the status byte `p` to `q`, the flags whose row does not name `mn` stay (10_state.md R26). -/
def StatusWithin (mn : Mnemonic) (p q : Byte) : Prop :=
  ∀ f, mn ∉ flagWriters f → testFlag q f = testFlag p f

/-- From `s` to `t`, the registers and flags whose table does not name `mn` stay (10_state.md R20 to R26). -/
structure WritesWithin (mn : Mnemonic) (s t : State) : Prop where
  reg : ∀ r, mn ∉ regWriters r → t.reg r = s.reg r
  status : StatusWithin mn s.p t.p

/-! ### The status byte -/

section
variable {mn : Mnemonic} {p q : Byte}

theorem StatusWithin.refl (mn : Mnemonic) (p : Byte) : StatusWithin mn p p := fun _ _ => rfl

/-- Every flag computation is a chain of single flag writes, each within the table if `mn` stands in its row. -/
theorem StatusWithin.putFlag (h : StatusWithin mn p q) {f : Flag} (hf : mn ∈ flagWriters f) (b : Bool) :
    StatusWithin mn p (putFlag q f b) := by
  intro g hg
  have hne : g ≠ f := fun hgf => hg (hgf ▸ hf)
  simp [hne, h g hg]

theorem StatusWithin.setZN (h : StatusWithin mn p q) (hzn : mn ∈ setZNUsers) (v : Byte) :
    StatusWithin mn p (setZN v q) :=
  (h.putFlag (f := .zero) (List.mem_append_left _ hzn) _).putFlag (f := .negative)
    (List.mem_append_left _ hzn) _

theorem statusWithin_adc (hmn : mn ∈ [Mnemonic.adc, .sbc]) (a m p : Byte) :
    StatusWithin mn p (adc a m p).2 := by
  have hrows : ∀ c ∈ [Mnemonic.adc, .sbc],
      c ∈ flagWriters .carry ∧ c ∈ flagWriters .overflow ∧ c ∈ setZNUsers := by decide
  obtain ⟨hc, hv, hzn⟩ := hrows mn hmn
  exact (((StatusWithin.refl mn p).putFlag hc _).putFlag hv _).setZN hzn _

theorem statusWithin_compareStatus (hmn : mn ∈ [Mnemonic.cmp, .cpx, .cpy]) (r m p : Byte) :
    StatusWithin mn p (compareStatus r m p) := by
  have hrows : ∀ c ∈ [Mnemonic.cmp, .cpx, .cpy],
      c ∈ flagWriters .carry ∧ c ∈ flagWriters .zero ∧ c ∈ flagWriters .negative := by decide
  obtain ⟨hc, hz, hn⟩ := hrows mn hmn
  exact (((StatusWithin.refl mn p).putFlag hc _).putFlag hz _).putFlag hn _

theorem statusWithin_bitTest (a m p : Byte) : StatusWithin .bit p (bitTest a m p) :=
  (((StatusWithin.refl .bit p).putFlag (f := .zero) (by decide) _).putFlag (f := .negative) (by decide)
    _).putFlag (f := .overflow) (by decide) _

theorem statusWithin_shift {f : Byte → Byte → Byte × Byte} (hf : ShiftOp mn f) (v p : Byte) :
    StatusWithin mn p (f v p).2 := by
  have hwrites (hc : mn ∈ flagWriters .carry) (hzn : mn ∈ setZNUsers) (r : Byte) (c : Bool) :
      StatusWithin mn p (setZN r (putFlag p .carry c)) :=
    ((StatusWithin.refl mn p).putFlag hc c).setZN hzn r
  cases hf <;> exact hwrites (by decide) (by decide) _ _

/-- PLP and RTI stand in the row of every flag but Break and Break2, which a pull keeps (R223). -/
theorem statusWithin_pulledStatus (hmn : mn ∈ [Mnemonic.plp, .rti]) (v p : Byte) :
    StatusWithin mn p (pulledStatus v p) := by
  intro f hf
  have hbreak : f = .break ∨ f = .break2 := by
    revert mn
    cases f <;> decide
  simp [testFlag_pulledStatus, hbreak]

end

/-! ### The registers -/

section
variable {mn : Mnemonic} {s t : State}

theorem WritesWithin.refl (mn : Mnemonic) (s : State) : WritesWithin mn s s :=
  ⟨fun _ _ => rfl, StatusWithin.refl mn s.p⟩

/-- To give one register a value is within the table if `mn` stands in the register's list. -/
theorem WritesWithin.of_reg (h : WritesWithin mn s t) {r : Reg} (hr : mn ∈ regWriters r) {u : State}
    (hreg : ∀ r', r' ≠ r → u.reg r' = t.reg r') (hp : u.p = t.p) : WritesWithin mn s u where
  reg r' hr' := (hreg r' fun hrr => hr' (hrr ▸ hr)).trans (h.reg r' hr')
  status := hp ▸ h.status

theorem WritesWithin.setA (h : WritesWithin mn s t) (hr : mn ∈ regWriters .a) (v : Byte) :
    WritesWithin mn s (t.setA v) :=
  h.of_reg hr (fun r hne => by cases r <;> simp at hne ⊢) rfl

theorem WritesWithin.setX (h : WritesWithin mn s t) (hr : mn ∈ regWriters .x) (v : Byte) :
    WritesWithin mn s (t.setX v) :=
  h.of_reg hr (fun r hne => by cases r <;> simp at hne ⊢) rfl

theorem WritesWithin.setY (h : WritesWithin mn s t) (hr : mn ∈ regWriters .y) (v : Byte) :
    WritesWithin mn s (t.setY v) :=
  h.of_reg hr (fun r hne => by cases r <;> simp at hne ⊢) rfl

theorem WritesWithin.setSp (h : WritesWithin mn s t) (hr : mn ∈ regWriters .sp) (v : Byte) :
    WritesWithin mn s (t.setSp v) :=
  h.of_reg hr (fun r hne => by cases r <;> simp at hne ⊢) rfl

theorem WritesWithin.setP (h : WritesWithin mn s t) {q : Byte} (hq : StatusWithin mn s.p q) :
    WritesWithin mn s (t.setP q) := ⟨h.reg, hq⟩

theorem WritesWithin.setP_setZN (h : WritesWithin mn s t) (hzn : mn ∈ setZNUsers) (v : Byte) :
    WritesWithin mn s (t.setP (setZN v s.p)) :=
  h.setP ((StatusWithin.refl mn s.p).setZN hzn v)

theorem WritesWithin.setPc (h : WritesWithin mn s t) (v : Word) : WritesWithin mn s (t.setPc v) :=
  ⟨h.reg, h.status⟩

theorem WritesWithin.writeByte (h : WritesWithin mn s t) (a : Word) (v : Byte) :
    WritesWithin mn s (t.writeByte a v) := ⟨h.reg, h.status⟩

theorem WritesWithin.halt (h : WritesWithin mn s t) : WritesWithin mn s (halt t) := ⟨h.reg, h.status⟩

theorem WritesWithin.push8 (h : WritesWithin mn s t) (hr : mn ∈ regWriters .sp) (v : Byte) :
    WritesWithin mn s (push8 v t) := (h.writeByte _ v).setSp hr _

/-! ### The handlers -/

theorem ReadHandler.writesWithin {h : Byte → State → State} (hh : ReadHandler mn h) (m : Byte) (s : State) :
    WritesWithin mn s (h m s) := by
  have start := WritesWithin.refl mn s
  cases hh with
  | adc | sbc => exact (start.setA (by decide) _).setP (statusWithin_adc (by decide) _ _ _)
  | and | ora | eor | lda => exact (start.setA (by decide) _).setP_setZN (by decide) _
  | ldx => exact (start.setX (by decide) _).setP_setZN (by decide) _
  | ldy => exact (start.setY (by decide) _).setP_setZN (by decide) _
  | cmp | cpx | cpy => exact start.setP (statusWithin_compareStatus (by decide) _ _ _)
  | bit => exact start.setP (statusWithin_bitTest _ _ _)

theorem ModifyOp.writesWithin {f : Byte → Byte → Byte × Byte} (hf : ModifyOp mn f) (ea : Word) (s : State) :
    WritesWithin mn s (modifyByte f ea s) := by
  have start := (WritesWithin.refl mn s).writeByte ea
  cases hf with
  | inc | dec => exact (start _).setP_setZN (by decide) _
  | shift hf => exact (start _).setP (statusWithin_shift hf _ _)

theorem ImpliedHandler.writesWithin {h : State → State} (hh : ImpliedHandler mn h) (s : State) :
    WritesWithin mn s (h s) := by
  have start := WritesWithin.refl mn s
  cases hh with
  | shift hf =>
    exact (start.setA (by cases hf <;> decide) _).setP (statusWithin_shift hf _ _)
  | flag hf => exact start.setP ((StatusWithin.refl mn s.p).putFlag (by cases hf <;> decide) _)
  | inx | dex | tax | tsx => exact (start.setX (by decide) _).setP_setZN (by decide) _
  | iny | dey | tay => exact (start.setY (by decide) _).setP_setZN (by decide) _
  | txa | tya => exact (start.setA (by decide) _).setP_setZN (by decide) _
  | txs => exact start.setSp (by decide) _
  | pha | php => exact start.push8 (by decide) _
  | pla => exact ((start.setSp (by decide) _).setA (by decide) _).setP_setZN (by decide) _
  | plp => exact (start.setSp (by decide) _).setP (statusWithin_pulledStatus (by decide) _ _)
  | nop => exact start
  | brk => exact start.halt

theorem Transfer.writesWithin {target : State → Word} {h : State → State} (hh : Transfer mn target h)
    (s : State) : WritesWithin mn s (h s) := by
  have start := WritesWithin.refl mn s
  cases hh with
  | jmpAbs | jmpInd | branch => exact start
  | jsr => exact (start.push8 (by decide) _).push8 (by decide) _
  | rts => exact start.setSp (by decide) _
  | rti =>
    exact ((start.setSp (by decide) _).setP (statusWithin_pulledStatus (by decide) _ _)).setSp (by decide) _

/-! ### The forms and `exec` -/

theorem withEa_writesWithin {tag : AddressMode} {opnd : Operand} {h : Word → State → State}
    (ht : tag ≠ .noAddress) (hh : ∀ ea, WritesWithin mn s (h ea s)) (hrun : withEa tag opnd h s = .next t) :
    WritesWithin mn s t := by
  obtain ⟨ea, -, hnext⟩ := withEa_next s opnd ht h
  obtain rfl : (h ea s).setPc (s.pc + opnd.length) = t := by simpa [hnext] using hrun
  exact (hh ea).setPc _

theorem ExecForm.writesWithin {run : State → Result} (hform : ExecForm mn run) (hrun : run s = .next t) :
    WritesWithin mn s t := by
  cases hform with
  | read hh heq ht => exact withEa_writesWithin ht (fun _ => hh.writesWithin _ s) (heq s ▸ hrun)
  | write hr heq ht =>
    exact withEa_writesWithin ht (fun ea => (WritesWithin.refl mn s).writeByte ea _) (heq s ▸ hrun)
  | modify hf heq ht => exact withEa_writesWithin ht (fun ea => hf.writesWithin ea s) (heq s ▸ hrun)
  | @implied h hh heq =>
    obtain rfl : (h s).setPc (s.pc + 1) = t := by simpa [heq, impliedForm] using hrun
    exact (hh.writesWithin s).setPc _
  | @transfer target h hh heq =>
    obtain rfl : (h s).setPc (target s) = t := by simpa [heq, transferForm] using hrun
    exact (hh.writesWithin s).setPc _

/-- An instruction writes the registers and flags of its mnemonic's rows, and no other. -/
theorem exec_writesWithin {i : Instr} (h : exec i s = .next t) : WritesWithin i.mnemonic s t :=
  (exec_form i).writesWithin h

end

/-- Settles O54, by the frame of an instruction. -/
theorem registersWrittenOnlyByTheirWriters : Obligations.RegistersWrittenOnlyByTheirWriters :=
  fun _ _ _ r h => (exec_writesWithin h).reg r

/-- Settles O55, by the frame of an instruction. -/
theorem flagsWrittenOnlyByTheirWriters : Obligations.FlagsWrittenOnlyByTheirWriters :=
  fun _ _ _ f h => (exec_writesWithin h).status f

end Sys2Proof.Proofs
end

section
/-! SUPPORT. Noninterference of the stored-only flags (10_state.md R25): a status byte with the same C, Z, V and N
runs every instruction but PHP to the same next state, up to the other four flags. -/

namespace Sys2Proof.Proofs

open Sys2Proof.Machine Sys2Proof.Claims

/-- Two status bytes agree on the flags an instruction can read. -/
def Agrees (p q : Byte) : Prop := ∀ f ∈ readFlags, testFlag q f = testFlag p f

/-- From status bytes that agree, an operation gives the same value and status bytes that agree. -/
def OpAgrees (f : Byte → Byte × Byte) : Prop :=
  ∀ p q, Agrees p q → (f q).1 = (f p).1 ∧ Agrees (f p).2 (f q).2

/-- From states that differ in P alone and agree, a handler gives states that do. -/
def Unaffected (h : State → State) : Prop :=
  ∀ s q, Agrees s.p q → ∃ q', Agrees (h s).p q' ∧ h (s.setP q) = (h s).setP q'

/-- From states that differ in P alone and agree, a meaning answers next states that do. -/
def RunUnaffected (run : State → Result) : Prop :=
  ∀ s q, Agrees s.p q → ∃ t q', run s = .next t ∧ run (s.setP q) = .next (t.setP q') ∧ Agrees t.p q'

/-! ### The status byte -/

section
variable {p q : Byte}

theorem Agrees.putFlag (h : Agrees p q) (f : Flag) (b : Bool) : Agrees (putFlag p f b) (putFlag q f b) := by
  intro g hg
  simp [h g hg]

theorem Agrees.setZN (h : Agrees p q) (v : Byte) : Agrees (setZN v p) (setZN v q) :=
  (h.putFlag _ _).putFlag _ _

theorem Agrees.compareStatus (h : Agrees p q) (r m : Byte) :
    Agrees (compareStatus r m p) (compareStatus r m q) :=
  ((h.putFlag _ _).putFlag _ _).putFlag _ _

theorem Agrees.bitTest (h : Agrees p q) (a m : Byte) : Agrees (bitTest a m p) (bitTest a m q) :=
  ((h.putFlag _ _).putFlag _ _).putFlag _ _

theorem Agrees.carryNat (h : Agrees p q) : carryNat q = carryNat p := by
  rw [carryNat_eq, carryNat_eq, h .carry (by decide)]

/-- A pull loads C, Z, V and N from the stack, whatever P was (45_stack_flags_system.md R223). -/
theorem agrees_pulledStatus (v p q : Byte) : Agrees (pulledStatus v p) (pulledStatus v q) := by
  have hstored : ∀ f ∈ readFlags, ¬(f = .break ∨ f = .break2) := by decide
  intro f hf
  simp [testFlag_pulledStatus, hstored f hf]

/-- An operation whose value does not come from P. -/
theorem opAgrees_of_value (v : Byte) {status : Byte → Byte}
    (hstatus : ∀ p q, Agrees p q → Agrees (status p) (status q)) : OpAgrees fun p => (v, status p) :=
  fun p q h => ⟨rfl, hstatus p q h⟩

theorem opAgrees_setZN (v : Byte) : OpAgrees fun p => (v, setZN v p) :=
  opAgrees_of_value v fun _ _ h => h.setZN v

theorem opAgrees_adc (a m : Byte) : OpAgrees (adc a m) := by
  intro p q h
  have hvalue : (adc a m q).1 = (adc a m p).1 := by simp [adc, h.carryNat]
  refine ⟨hvalue, fun f hf => ?_⟩
  simp [testFlag_adc, hvalue, h.carryNat, h f hf]

/-- A shift or rotate (43_shift_rotate.md R190 to R193): of P only the carry can enter its result. -/
theorem opAgrees_shift (result : Nat → Byte) (c : Bool) :
    OpAgrees fun p => (result (carryNat p), setZN (result (carryNat p)) (putFlag p .carry c)) := by
  intro p q h
  simp only [h.carryNat, true_and]
  exact (h.putFlag _ _).setZN _

theorem ShiftOp.opAgrees {mn : Mnemonic} {f : Byte → Byte → Byte × Byte} (hf : ShiftOp mn f) (v : Byte) :
    OpAgrees (f v) := by
  cases hf with
  | asl => exact opAgrees_shift (fun _ => v <<< 1) _
  | lsr => exact opAgrees_shift (fun _ => v >>> 1) _
  | rol => exact opAgrees_shift (fun c => v <<< 1 ||| BitVec.ofNat 8 c) _
  | ror => exact opAgrees_shift (fun c => v >>> 1 ||| BitVec.ofNat 8 c <<< 7) _

theorem ModifyOp.opAgrees {mn : Mnemonic} {f : Byte → Byte → Byte × Byte} (hf : ModifyOp mn f) (v : Byte) :
    OpAgrees (f v) := by
  cases hf with
  | inc | dec => exact opAgrees_setZN _
  | shift hf => exact hf.opAgrees v

end

/-! ### The handlers -/

/-- A handler that does an operation on P, the operation chosen by the rest of the state, and writes its value
anywhere but in P. -/
theorem unaffected_of_op (f : State → Byte → Byte × Byte) (write : Byte → State → State)
    (hop : ∀ s, OpAgrees (f s)) (hf : ∀ s q, f (s.setP q) = f s := by intros; rfl)
    (hwrite : ∀ v s p q, (write v (s.setP q)).setP p = (write v s).setP p := by intros; rfl) :
    Unaffected fun s => (write (f s s.p).1 s).setP (f s s.p).2 := by
  intro s q h
  obtain ⟨hvalue, hstatus⟩ := hop s s.p q h
  refine ⟨(f s q).2, hstatus, ?_⟩
  change (write (f (s.setP q) q).1 (s.setP q)).setP (f (s.setP q) q).2 =
    (write (f s s.p).1 s).setP (f s q).2
  rw [hf, hvalue, hwrite]

/-- A handler that writes P and nothing else. -/
theorem unaffected_of_status (status : State → Byte → Byte)
    (hstatus : ∀ s p q, Agrees p q → Agrees (status s p) (status s q))
    (hs : ∀ s q, status (s.setP q) = status s := by intros; rfl) :
    Unaffected fun s => s.setP (status s s.p) :=
  unaffected_of_op (fun s p => (0, status s p)) (fun _ s => s) (fun s => opAgrees_of_value 0 (hstatus s))
    (fun s q => by rw [hs])

/-- A handler that writes a value somewhere and sets Z and N from it. -/
theorem unaffected_of_setZN (value : State → Byte) (write : Byte → State → State)
    (hvalue : ∀ s q, value (s.setP q) = value s := by intros; rfl)
    (hwrite : ∀ v s p q, (write v (s.setP q)).setP p = (write v s).setP p := by intros; rfl) :
    Unaffected fun s => (write (value s) s).setP (setZN (value s) s.p) :=
  unaffected_of_op (fun s p => (value s, setZN (value s) p)) write (fun s => opAgrees_setZN (value s))
    (fun s q => by rw [hvalue]) hwrite

/-- A handler that neither reads nor writes P. -/
theorem unaffected_of_comm (h : State → State) (hp : ∀ s, (h s).p = s.p := by intros; rfl)
    (hcomm : ∀ s q, h (s.setP q) = (h s).setP q := by intros; rfl) : Unaffected h :=
  fun s q hq => ⟨q, (hp s).symm ▸ hq, hcomm s q⟩

theorem unaffected_pullStatus : Unaffected pullStatus :=
  unaffected_of_op (fun s p => (s.sp + 1, pulledStatus (pull8 s).1 p)) (fun v s => s.setSp v)
    fun _ => opAgrees_of_value _ fun p q _ => agrees_pulledStatus _ p q

theorem Unaffected.comp {g h : State → State} (hg : Unaffected g) (hh : Unaffected h) :
    Unaffected fun s => g (h s) := by
  intro s q hq
  obtain ⟨q₁, hagree₁, heq₁⟩ := hh s q hq
  obtain ⟨q₂, hagree₂, heq₂⟩ := hg (h s) q₁ hagree₁
  exact ⟨q₂, hagree₂, (congrArg g heq₁).trans heq₂⟩

section
variable {mn : Mnemonic}

theorem ReadHandler.unaffected {h : Byte → State → State} (hh : ReadHandler mn h) (m : Byte) :
    Unaffected (h m) := by
  cases hh with
  | adc => exact unaffected_of_op (fun s => Machine.adc s.a m) (fun v s => s.setA v) fun s => opAgrees_adc s.a m
  | sbc => exact unaffected_of_op (fun s => Machine.sbc s.a m) (fun v s => s.setA v) fun s => opAgrees_adc s.a _
  | and => exact unaffected_of_setZN (fun s => s.a &&& m) fun v s => s.setA v
  | ora => exact unaffected_of_setZN (fun s => s.a ||| m) fun v s => s.setA v
  | eor => exact unaffected_of_setZN (fun s => s.a ^^^ m) fun v s => s.setA v
  | cmp => exact unaffected_of_status (fun s => compareStatus s.a m) fun s _ _ hq => hq.compareStatus s.a m
  | cpx => exact unaffected_of_status (fun s => compareStatus s.x m) fun s _ _ hq => hq.compareStatus s.x m
  | cpy => exact unaffected_of_status (fun s => compareStatus s.y m) fun s _ _ hq => hq.compareStatus s.y m
  | bit => exact unaffected_of_status (fun s => bitTest s.a m) fun s _ _ hq => hq.bitTest s.a m
  | lda => exact unaffected_of_setZN (fun _ => m) fun v s => s.setA v
  | ldx => exact unaffected_of_setZN (fun _ => m) fun v s => s.setX v
  | ldy => exact unaffected_of_setZN (fun _ => m) fun v s => s.setY v

theorem ModifyOp.unaffected {f : Byte → Byte → Byte × Byte} (hf : ModifyOp mn f) (ea : Word) :
    Unaffected (modifyByte f ea) :=
  unaffected_of_op (fun s => f (s.readByte ea)) (fun v s => s.writeByte ea v) fun _ => hf.opAgrees _

theorem ImpliedHandler.unaffected {h : State → State} (hh : ImpliedHandler mn h) (hne : mn ≠ .php) :
    Unaffected h := by
  cases hh with
  | @shift _ f hf => exact unaffected_of_op (fun s => f s.a) (fun v s => s.setA v) fun s => hf.opAgrees s.a
  | @flag _ f b _ => exact unaffected_of_status (fun _ p => putFlag p f b) fun _ _ _ hq => hq.putFlag f b
  | inx => exact unaffected_of_setZN (fun s => s.x + 1) fun v s => s.setX v
  | iny => exact unaffected_of_setZN (fun s => s.y + 1) fun v s => s.setY v
  | dex => exact unaffected_of_setZN (fun s => s.x - 1) fun v s => s.setX v
  | dey => exact unaffected_of_setZN (fun s => s.y - 1) fun v s => s.setY v
  | tax => exact unaffected_of_setZN (fun s => s.a) fun v s => s.setX v
  | tay => exact unaffected_of_setZN (fun s => s.a) fun v s => s.setY v
  | txa => exact unaffected_of_setZN (fun s => s.x) fun v s => s.setA v
  | tya => exact unaffected_of_setZN (fun s => s.y) fun v s => s.setA v
  | tsx => exact unaffected_of_setZN (fun s => s.sp) fun v s => s.setX v
  | pla => exact unaffected_of_setZN (fun s => (pull8 s).1) fun v s => (pull8 s).2.setA v
  | plp => exact unaffected_pullStatus
  | txs => exact unaffected_of_comm handleTxs
  | pha => exact unaffected_of_comm handlePha
  | nop => exact unaffected_of_comm id
  | brk => exact unaffected_of_comm halt
  | php => exact absurd rfl hne

theorem Transfer.unaffected {target : State → Word} {h : State → State} (hh : Transfer mn target h) :
    Unaffected h := by
  cases hh with
  | jmpAbs | jmpInd | branch => exact unaffected_of_comm id
  | jsr => exact unaffected_of_comm fun s => push16 (s.pc + 2) s
  | rts => exact unaffected_of_comm fun s => (pull16 s).2
  | rti => exact (unaffected_of_comm fun s => (pull16 s).2).comp unaffected_pullStatus

/-- A transfer's target comes from P only through the flag a branch tests. -/
theorem Transfer.target_setP {target : State → Word} {h : State → State} (hh : Transfer mn target h)
    {s : State} {q : Byte} (hq : Agrees s.p q) : target (s.setP q) = target s := by
  cases hh with
  | jmpAbs | jmpInd | jsr | rts | rti => rfl
  | @branch _ f hf =>
    have hflag : (s.setP q).flag f = s.flag f := hq f hf
    simp only [hflag, State.setP_pc]

/-! ### The forms and `exec` -/

theorem withEa_unaffected {tag : AddressMode} {opnd : Operand} {h : Word → State → State}
    (ht : tag ≠ .noAddress) (hh : ∀ ea, Unaffected (h ea)) : RunUnaffected (withEa tag opnd h) := by
  intro s q hq
  obtain ⟨ea, hea, hnext⟩ := withEa_next s opnd ht h
  have heaq : resolve tag ((s.setP q).pc + 1) opnd (s.setP q) = .ok ea :=
    (resolve_congr opnd rfl rfl rfl tag _).trans hea
  obtain ⟨q', hagree, heq⟩ := hh ea s q hq
  refine ⟨_, q', hnext, ?_, hagree⟩
  rw [withEa_of_resolve _ _ _ heaq, heq]
  rfl

theorem readForm_unaffected {tag : AddressMode} {opnd : Operand} {h : Byte → State → State}
    (ht : tag ≠ .noAddress) (hh : ∀ m, Unaffected (h m)) : RunUnaffected (readForm tag opnd h) := by
  refine withEa_unaffected ht fun ea s q hq => ?_
  have hoperand : operandByte tag opnd ea (s.setP q) = operandByte tag opnd ea s := by cases tag <;> rfl
  simpa only [hoperand] using hh (operandByte tag opnd ea s) s q hq

/-- A store hands the byte of its register to every effective address alike. -/
theorem writeForm_unaffected {tag : AddressMode} {opnd : Operand} (ht : tag ≠ .noAddress) (r : Reg) :
    RunUnaffected fun s => writeForm tag opnd (s.reg r) s :=
  withEa_unaffected (h := fun ea s => s.writeByte ea (s.reg r)) ht fun ea =>
    unaffected_of_comm fun s => s.writeByte ea (s.reg r)

theorem transferForm_unaffected {target : State → Word} {h : State → State} (hh : Unaffected h)
    (htarget : ∀ s q, Agrees s.p q → target (s.setP q) = target s) :
    RunUnaffected fun s => transferForm (target s) h s := by
  intro s q hq
  obtain ⟨q', hagree, heq⟩ := hh s q hq
  refine ⟨(h s).setPc (target s), q', rfl, ?_, hagree⟩
  simp only [transferForm, htarget s q hq, heq]
  rfl

theorem ExecForm.unaffected {run : State → Result} (hform : ExecForm mn run) (hne : mn ≠ .php) :
    RunUnaffected run := by
  cases hform with
  | read hh heq ht => exact funext heq ▸ readForm_unaffected ht hh.unaffected
  | @write r _ _ hr heq ht => exact funext heq ▸ writeForm_unaffected ht r
  | modify hf heq ht => exact funext heq ▸ withEa_unaffected ht hf.unaffected
  | implied hh heq =>
    exact funext heq ▸
      transferForm_unaffected (target := fun s => s.pc + 1) (hh.unaffected hne) fun _ _ _ => rfl
  | transfer hh heq => exact funext heq ▸ transferForm_unaffected hh.unaffected fun _ _ => hh.target_setP

theorem eq_php_of_mnemonic {i : Instr} (h : i.mnemonic = .php) : i = .php := by
  cases i <;> simp [Instr.mnemonic] at h ⊢

end

/-- Settles O58: each meaning but PHP's answers states that differ in P alone and agree on C, Z, V and N. -/
theorem storedOnlyFlagsDoNotMatter : Obligations.StoredOnlyFlagsDoNotMatter := by
  intro i s q hi hq
  obtain ⟨t, q', ht, hu, hagree⟩ := (exec_form i).unaffected (fun h => hi (eq_php_of_mnemonic h)) s q hq
  exact ⟨t, t.setP q', ht, hu, rfl, rfl, rfl, rfl, rfl, rfl, rfl, rfl, hagree⟩

end Sys2Proof.Proofs
end

section
/-! SUPPORT. The memory primitives (20_memory.md R52 to R55): what a byte write, a word read and a word write do to
memory, and that they touch no other state element. -/

namespace Sys2Proof.Proofs

open Sys2Proof.Machine

section
variable (s : State) (addr w : Word)

/-- `MemRead(addr, 2)` as a number (R53). -/
theorem readWord_toNat :
    (s.readWord addr).toNat = (s.readByte addr).toNat + 256 * (s.readByte (addr + 1)).toNat := by
  rw [State.readWord, wordOf_toNat]
  omega

/-- After `MemWrite(addr, 2, w)` the low byte stands at `addr` (R54). -/
theorem readByte_writeWord_low : (s.writeWord addr w).readByte addr = loByte w := by
  simp [State.writeWord_readByte]

/-- After `MemWrite(addr, 2, w)` the high byte stands at the next address, modulo 65 536 (R54). -/
theorem readByte_writeWord_high : (s.writeWord addr w).readByte (addr + 1) = hiByte w := by
  simp [State.writeWord_readByte]

/-- A word reads back as written (R55). -/
theorem readWord_writeWord : (s.writeWord addr w).readWord addr = w := by
  rw [State.readWord, readByte_writeWord_low, readByte_writeWord_high, wordOf_hiByte_loByte]

theorem keepsMemBut_writeWord : KeepsMemBut [addr, addr + 1] s (s.writeWord addr w) := by
  intro a ha
  obtain ⟨hlow, hhigh⟩ : a ≠ addr ∧ a ≠ addr + 1 := by simpa using ha
  rw [State.writeWord_readByte, if_neg hhigh, if_neg hlow]

end

/-- Settles O19, by the law of a read after a byte write; the other state elements stay by definition. -/
theorem writeByteChangesOneCell : Obligations.WriteByteChangesOneCell := by
  intro s addr v
  refine ⟨s.readByte_writeByte_self addr v, fun a ha => ?_, rfl⟩
  have hne : a ≠ addr := by simpa using ha
  exact s.readByte_writeByte_ne hne v

/-- Settles O20: the number of a word read, whose second address wraps from 0xFFFF to 0x0000. -/
theorem readWordLittleEndian : Obligations.ReadWordLittleEndian :=
  fun s addr => ⟨readWord_toNat s addr, readWord_toNat s 0xFFFF⟩

/-- Settles O21, byte by byte; the other state elements stay by definition. -/
theorem writeWordLittleEndian : Obligations.WriteWordLittleEndian := by
  intro s addr w
  refine ⟨?_, ?_, readWord_writeWord s addr w, keepsMemBut_writeWord s addr w, rfl⟩
  · rw [readByte_writeWord_low, loByte_toNat]
  · rw [readByte_writeWord_high, hiByte_toNat]

end Sys2Proof.Proofs
end

section
/-! SUPPORT. Memory, run state and fault under an instruction: memory is written by the mnemonics of its list alone
and stays canonical, the run state changes by BRK alone, and no error is recorded (20_memory.md R57,
40_engine_and_resolver.md R112, 60_exceptions.md R250). With the raise of a failed fetch this makes every step keep
the invariant. -/

namespace Sys2Proof.Proofs

open Sys2Proof.Machine

/-- The states the handlers of a mnemonic leave from `s`, before PC gets its final value. -/
inductive HandlerResult (mn : Mnemonic) (s : State) : State → Prop
  | read {h : Byte → State → State} (hh : ReadHandler mn h) (m : Byte) : HandlerResult mn s (h m s)
  | write {r : Reg} (hr : StoredReg mn r) (ea : Word) : HandlerResult mn s (s.writeByte ea (s.reg r))
  | modify {f : Byte → Byte → Byte × Byte} (hf : ModifyOp mn f) (ea : Word) :
      HandlerResult mn s (modifyByte f ea s)
  | implied {h : State → State} (hh : ImpliedHandler mn h) : HandlerResult mn s (h s)
  | transfer {target : State → Word} {h : State → State} (hh : Transfer mn target h) : HandlerResult mn s (h s)

/-- From `s` to `t`, memory is written only if `mn` may write it and stays canonical, the run state changes only by
BRK, which halts, and the fault stays. -/
structure StoresWithin (mn : Mnemonic) (s t : State) : Prop where
  mem : mn ∉ memWriters → t.mem = s.mem
  memWf : s.mem.wf → t.mem.wf
  runState : t.runState = s.runState ∨ mn = .brk ∧ t.runState = .halted
  fault : t.fault = s.fault

/-! ### What `exec` answers -/

section
variable {mn : Mnemonic} {s t : State}

theorem withEa_handlerResult {tag : AddressMode} {opnd : Operand} {h : Word → State → State}
    (ht : tag ≠ .noAddress) (hh : ∀ ea, HandlerResult mn s (h ea s)) (hrun : withEa tag opnd h s = .next t) :
    ∃ u pc, HandlerResult mn s u ∧ t = u.setPc pc := by
  obtain ⟨ea, -, hnext⟩ := withEa_next s opnd ht h
  exact ⟨h ea s, _, hh ea, Host.Outcome.next.inj (hrun.symm.trans hnext)⟩

/-- Every form leaves what its handler leaves, up to PC. -/
theorem ExecForm.handlerResult {run : State → Result} (hform : ExecForm mn run) (hrun : run s = .next t) :
    ∃ u pc, HandlerResult mn s u ∧ t = u.setPc pc := by
  cases hform with
  | read hh heq ht => exact withEa_handlerResult ht (fun _ => .read hh _) (heq s ▸ hrun)
  | write hr heq ht => exact withEa_handlerResult ht (fun ea => .write hr ea) (heq s ▸ hrun)
  | modify hf heq ht => exact withEa_handlerResult ht (fun ea => .modify hf ea) (heq s ▸ hrun)
  | implied hh heq => exact ⟨_, _, .implied hh, Host.Outcome.next.inj (hrun.symm.trans (heq s))⟩
  | transfer hh heq => exact ⟨_, _, .transfer hh, Host.Outcome.next.inj (hrun.symm.trans (heq s))⟩

/-! ### The handlers -/

theorem storesWithin_of_eq (hmem : t.mem = s.mem) (hrun : t.runState = s.runState) (hfault : t.fault = s.fault) :
    StoresWithin mn s t :=
  ⟨fun _ => hmem, fun hwf => hmem ▸ hwf, .inl hrun, hfault⟩

/-- To write memory is within the table if `mn` may write it. -/
theorem storesWithin_of_writer (hmn : mn ∈ memWriters) (hwf : s.mem.wf → t.mem.wf)
    (hrun : t.runState = s.runState) (hfault : t.fault = s.fault) : StoresWithin mn s t :=
  ⟨absurd hmn, hwf, .inl hrun, hfault⟩

theorem StoredReg.storesWithin {r : Reg} (hr : StoredReg mn r) (ea : Word) (v : Byte) :
    StoresWithin mn s (s.writeByte ea v) :=
  storesWithin_of_writer (by cases hr <;> decide) (State.writeByte_wf · ea v) rfl rfl

theorem ReadHandler.storesWithin {h : Byte → State → State} (hh : ReadHandler mn h) (m : Byte) :
    StoresWithin mn s (h m s) := by
  cases hh <;> exact storesWithin_of_eq rfl rfl rfl

theorem ModifyOp.mem_memWriters {f : Byte → Byte → Byte × Byte} (hf : ModifyOp mn f) : mn ∈ memWriters := by
  cases hf with
  | inc | dec => decide
  | shift hf => cases hf <;> decide

theorem ModifyOp.storesWithin {f : Byte → Byte → Byte × Byte} (hf : ModifyOp mn f) (ea : Word) :
    StoresWithin mn s (modifyByte f ea s) :=
  storesWithin_of_writer hf.mem_memWriters (modifyByte_wf · f ea) rfl rfl

/-- Of the one-byte instructions only the pushes write memory, and only BRK halts. -/
theorem ImpliedHandler.storesWithin {h : State → State} (hh : ImpliedHandler mn h) : StoresWithin mn s (h s) := by
  cases hh with
  | pha | php => exact storesWithin_of_writer (by decide) (push8_wf _) rfl rfl
  | brk => exact ⟨fun _ => rfl, id, .inr ⟨rfl, rfl⟩, rfl⟩
  | shift | flag | inx | iny | dex | dey | tax | tay | txa | tya | tsx | txs | pla | plp | nop =>
    exact storesWithin_of_eq rfl rfl rfl

/-- Of the control transfers only JSR writes memory. -/
theorem Transfer.storesWithin {target : State → Word} {h : State → State} (hh : Transfer mn target h) :
    StoresWithin mn s (h s) := by
  cases hh with
  | jsr => exact storesWithin_of_writer (by decide) (push16_wf _) rfl rfl
  | jmpAbs | jmpInd | rts | rti | branch => exact storesWithin_of_eq rfl rfl rfl

theorem HandlerResult.storesWithin (h : HandlerResult mn s t) : StoresWithin mn s t := by
  cases h with
  | read hh m => exact hh.storesWithin m
  | write hr ea => exact hr.storesWithin ea _
  | modify hf ea => exact hf.storesWithin ea
  | implied hh => exact hh.storesWithin
  | transfer hh => exact hh.storesWithin

theorem StoresWithin.setPc (h : StoresWithin mn s t) (v : Word) : StoresWithin mn s (t.setPc v) :=
  ⟨h.mem, h.memWf, h.runState, h.fault⟩

/-- An instruction writes memory only if its mnemonic may, halts only as BRK and records no error. -/
theorem exec_storesWithin {i : Instr} (h : exec i s = .next t) : StoresWithin i.mnemonic s t := by
  obtain ⟨u, pc, hu, rfl⟩ := (exec_form i).handlerResult h
  exact hu.storesWithin.setPc pc

/-- The accumulator forms of the shifts write A and P alone (40_engine_and_resolver.md R133). -/
theorem accumulatorForm_mem {f : Byte → Byte → Byte × Byte} (h : accumulatorForm f s = .next t) :
    t.mem = s.mem := by
  obtain rfl := Host.Outcome.next.inj h
  rfl

theorem exec_accumulator {i : Instr} (hi : i ∈ [Instr.aslAcc, .lsrAcc, .rolAcc, .rorAcc]) (s : State) :
    ∃ f, exec i s = accumulatorForm f s := by
  obtain rfl | rfl | rfl | rfl : i = .aslAcc ∨ i = .lsrAcc ∨ i = .rolAcc ∨ i = .rorAcc := by simpa using hi
  · exact ⟨asl, rfl⟩
  · exact ⟨lsr, rfl⟩
  · exact ⟨rol, rfl⟩
  · exact ⟨ror, rfl⟩

/-! ### The invariant -/

/-- To change the run state by halting alone and no recorded error keeps the invariant. -/
theorem StoresWithin.inv (h : StoresWithin mn s t) (hs : s.Inv) : t.Inv where
  memWf := h.memWf hs.memWf
  faultHalted hfault := by
    obtain hrun | ⟨-, hrun⟩ := h.runState
    · exact hrun.trans (hs.faultHalted (h.fault ▸ hfault))
    · exact hrun
  noUnsupported := h.fault ▸ hs.noUnsupported

/-- To raise `UnknownOpcode` halts and leaves memory alone (60_exceptions.md R254). -/
theorem raise_unknownOpcode_inv (hwf : s.mem.wf) (b : Byte) : (raise (.unknownOpcode b) s).Inv where
  memWf := hwf
  faultHalted _ := rfl
  noUnsupported := by simp

end

/-- Settles O12, by what a step can do: nothing, one instruction, or one raise of `UnknownOpcode`. -/
theorem stepKeepsInvariant : Obligations.StepKeepsInvariant := by
  intro cfg s t hs hstep
  obtain ⟨-, hnext⟩ | ⟨-, i, -, hexec⟩ | ⟨-, -, hraise⟩ := engineStep_cases cfg s
  · obtain rfl := Host.Outcome.next.inj (hnext.symm.trans hstep)
    exact hs
  · exact (exec_storesWithin (hexec.symm.trans hstep)).inv hs
  · obtain rfl := Host.Outcome.next.inj (hraise.symm.trans hstep)
    exact raise_unknownOpcode_inv (s := s.setPc (s.pc + 1)) hs.memWf _

/-- Settles O56: a mnemonic outside the list leaves memory as it is, and so does an accumulator form. -/
theorem memoryWrittenOnlyByWriters : Obligations.MemoryWrittenOnlyByWriters := by
  intro i s t h hi
  refine State.readByte_of_mem_eq ?_
  obtain hmn | hacc := hi
  · exact (exec_storesWithin h).mem hmn
  · obtain ⟨f, hf⟩ := exec_accumulator hacc s
    exact accumulatorForm_mem (hf.symm.trans h)

end Sys2Proof.Proofs
end

section
/-! SUPPORT. The catalog, its lookup, and the decoder against the encoder (30_encoding.md). The two transcriptions of
R90 meet in two facts: what a catalog row builds is encoded as the row's code and operand bytes
(`encodedAs_of_mem_catalog`), and every instruction is built by the row of its first byte (`exists_row`). -/

namespace Sys2Proof.Proofs

open Sys2Proof.Claims

/-! ### The catalog and its lookup -/

/-- The opcode bytes of the catalog, in the order of its rows. -/
def catalogCodes : List Byte := catalog.map fun r => r.desc.code

/-- The uniqueness check of R83 refuses exactly the lists in which a code occurs twice. -/
theorem codesWellFormed_iff_nodup (codes : List Byte) : codesWellFormed codes = true ↔ codes.Nodup := by
  induction codes with
  | nil => simp [codesWellFormed]
  | cons c rest ih => simp [codesWellFormed, ih]

/-- The table of R90 is sorted by opcode, so no code occurs twice. -/
theorem catalogCodes_nodup : catalogCodes.Nodup := by
  have hsorted : catalogCodes.IsChain (· < ·) := by decide +kernel
  exact (List.isChain_iff_pairwise.1 hsorted).nodup

theorem mem_catalog_of_catalogGet {code : Byte} {r : Row} (hget : catalogGet code = some r) :
    r ∈ catalog ∧ r.desc.code = code :=
  ⟨List.mem_of_find?_eq_some hget, by simpa using List.find?_some hget⟩

/-- `get` answers exactly the row of the code (R83): no second row has it. -/
theorem catalogGet_eq_some_iff {code : Byte} {r : Row} :
    catalogGet code = some r ↔ r ∈ catalog ∧ r.desc.code = code := by
  refine ⟨mem_catalog_of_catalogGet, ?_⟩
  rintro ⟨hr, rfl⟩
  obtain ⟨r', hget⟩ : ∃ r', catalogGet r.desc.code = some r' :=
    Option.isSome_iff_exists.1 (List.find?_isSome.2 ⟨r, hr, beq_self_eq_true _⟩)
  obtain ⟨hr', hcode⟩ := mem_catalog_of_catalogGet hget
  rw [hget, List.inj_on_of_nodup_map catalogCodes_nodup hr' hr hcode]

/-- `get` fails exactly when no row has the code (R83). -/
theorem catalogGet_eq_none_iff {code : Byte} : catalogGet code = none ↔ ∀ r ∈ catalog, r.desc.code ≠ code := by
  simp [catalogGet]

theorem catalogGet_eq_none_iff_not_mem {code : Byte} : catalogGet code = none ↔ code ∉ catalogCodes := by
  simp [catalogGet_eq_none_iff, catalogCodes]

/-- The pages of the catalog, by the high half of the code. -/
def pages : List (List Row) :=
  [catalog0, catalog1, catalog2, catalog3, catalog4, catalog5, catalog6, catalog7,
   catalog8, catalog9, catalogA, catalogB, catalogC, catalogD, catalogE, catalogF]

theorem catalog_eq_flatten_pages : catalog = pages.flatten := by
  simp [catalog, pages]

/-- The lookup in the one page a code can stand in: to evaluate it is to walk one page, not the 151 rows. -/
def pageGet (op : Byte) : Option Row :=
  (pages.getD (op.toNat / 16) []).find? fun r => r.desc.code == op

theorem catalogGet_of_pageGet {op : Byte} {r : Row} (hget : pageGet op = some r) : catalogGet op = some r := by
  have hpage : op.toNat / 16 < pages.length := Nat.div_lt_of_lt_mul op.isLt
  have hmem := List.mem_of_find?_eq_some hget
  rw [List.getD_eq_getElem _ _ hpage] at hmem
  refine catalogGet_eq_some_iff.2 ⟨?_, by simpa using List.find?_some hget⟩
  exact catalog_eq_flatten_pages ▸ List.mem_flatten_of_mem (List.getElem_mem hpage) hmem

/-! ### The illegal bytes -/

/-- The bytes of a list as a set of bits, bit `n` for the byte `n`: one number to compare instead of 256 searches. -/
def bitset (bytes : List Byte) : Nat := bytes.foldr (fun c bits => bits ||| 2 ^ c.toNat) 0

theorem testBit_bitset (bytes : List Byte) (code : Byte) :
    (bitset bytes).testBit code.toNat = decide (code ∈ bytes) := by
  induction bytes with
  | nil => simp [bitset]
  | cons c rest ih =>
    have hcons : bitset (c :: rest) = bitset rest ||| 2 ^ c.toNat := rfl
    simp [hcons, ih, Nat.testBit_or, Nat.testBit_two_pow, ← BitVec.toNat_inj, eq_comm, Bool.or_comm]

/-- The codes of R90 and the bytes of R91 share no bit and leave none of the 256 out. -/
theorem bitset_catalogCodes_xor_illegalBytes : bitset catalogCodes ^^^ bitset illegalBytes = 2 ^ 256 - 1 := by
  decide +kernel

theorem not_mem_catalogCodes_iff (code : Byte) : code ∉ catalogCodes ↔ code ∈ illegalBytes := by
  have hbit : (decide (code ∈ catalogCodes) ^^ decide (code ∈ illegalBytes)) = true := by
    rw [← testBit_bitset, ← testBit_bitset, ← Nat.testBit_xor, bitset_catalogCodes_xor_illegalBytes,
      Nat.testBit_two_pow_sub_one]
    exact decide_eq_true code.isLt
  by_cases hcode : code ∈ catalogCodes
  · simpa [hcode] using hbit
  · simpa [hcode] using hbit

/-! ### The decoder, format by format -/

/-- The operand bytes of a format (30_encoding.md R80), of the bytes `Shape.build` is given. -/
def operandBytes : Shape → (b1 b2 : Byte) → List Byte
  | .f1 _, _, _ => []
  | .f2 _, b1, _ => [b1]
  | .f3 _, b1, b2 => [b1, b2]

/-- A format accepts exactly the strings that begin with its operand bytes, and builds its instruction of them. -/
theorem take_eq_instr_iff {shape : Shape} {bytes rest : List Byte} {i : Instr} :
    shape.take bytes = .instr i rest ↔
      ∃ b1 b2, shape.build b1 b2 = i ∧ bytes = operandBytes shape b1 b2 ++ rest := by
  constructor
  · intro h
    match shape, bytes, h with
    | .f1 _, _, h =>
      obtain ⟨rfl, rfl⟩ := Decoded.instr.inj h
      exact ⟨0, 0, rfl, rfl⟩
    | .f2 _, b1 :: _, h =>
      obtain ⟨rfl, rfl⟩ := Decoded.instr.inj h
      exact ⟨b1, 0, rfl, rfl⟩
    | .f3 _, b1 :: b2 :: _, h =>
      obtain ⟨rfl, rfl⟩ := Decoded.instr.inj h
      exact ⟨b1, b2, rfl, rfl⟩
  · rintro ⟨b1, b2, rfl, rfl⟩
    cases shape <;> rfl

theorem take_ne_unknownOpcode (shape : Shape) (bytes : List Byte) (code : Byte) :
    shape.take bytes ≠ .bad (.unknownOpcode code) := by
  unfold Shape.take
  split <;> simp

theorem decode_cons_of_some {op : Byte} {r : Row} (hget : catalogGet op = some r) (bytes : List Byte) :
    decode (op :: bytes) = r.shape.take bytes := by
  simp [decode, hget]

/-- The decoder accepts exactly the strings that begin with a catalog code and the operand bytes of its row. -/
theorem decode_eq_instr_iff {bytes rest : List Byte} {i : Instr} :
    decode bytes = .instr i rest ↔
      ∃ op r b1 b2, catalogGet op = some r ∧ r.shape.build b1 b2 = i ∧
        bytes = op :: operandBytes r.shape b1 b2 ++ rest := by
  constructor
  · intro h
    match bytes, h with
    | op :: bytes, h =>
      cases hget : catalogGet op with
      | none => simp [decode, hget] at h
      | some r =>
        obtain ⟨b1, b2, hbuild, rfl⟩ := take_eq_instr_iff.1 ((decode_cons_of_some hget bytes).symm.trans h)
        exact ⟨op, r, b1, b2, hget, hbuild, rfl⟩
  · rintro ⟨op, r, b1, b2, hget, hbuild, rfl⟩
    exact (decode_cons_of_some hget _).trans (take_eq_instr_iff.2 ⟨b1, b2, hbuild, rfl⟩)

/-- Decoding names the first byte as unknown exactly when it has no catalog row (R82, R91). -/
theorem decode_cons_eq_unknownOpcode_iff {code : Byte} {rest : List Byte} :
    decode (code :: rest) = .bad (.unknownOpcode code) ↔ catalogGet code = none := by
  cases hget : catalogGet code with
  | none => simp [decode, hget]
  | some r => simp [decode_cons_of_some hget, take_ne_unknownOpcode]

/-! ### The encoder against the catalog -/

/-- The encoder writes what a format makes as `code` and the operand bytes (30_encoding.md R80). -/
inductive EncodedAs (code : Byte) : Shape → Prop
  | f1 {i : Instr} (h : encode i = [code]) : EncodedAs code (.f1 i)
  | f2 {mk : Byte → Instr} (h : ∀ b, encode (mk b) = [code, b]) : EncodedAs code (.f2 mk)
  | f3 {mk : Word → Instr} (h : ∀ w, encode (mk w) = [code, loByte w, hiByte w]) : EncodedAs code (.f3 mk)

/-- Row by row of R90, the encoder's transcription agrees with the catalog's. -/
theorem encodedAs_of_mem_catalog : ∀ r ∈ catalog, EncodedAs r.desc.code r.shape := by
  refine List.forall_iff_forall_mem.1 ?_
  repeat' constructor
  all_goals exact fun _ => rfl

theorem EncodedAs.encode_build {code : Byte} {shape : Shape} (h : EncodedAs code shape) (b1 b2 : Byte) :
    encode (shape.build b1 b2) = code :: operandBytes shape b1 b2 := by
  cases h with
  | f1 h => exact h
  | f2 h => exact h b1
  | f3 h => simp [Shape.build, operandBytes, h]

theorem encode_build {op : Byte} {r : Row} (hget : catalogGet op = some r) (b1 b2 : Byte) :
    encode (r.shape.build b1 b2) = op :: operandBytes r.shape b1 b2 := by
  obtain ⟨hr, rfl⟩ := mem_catalog_of_catalogGet hget
  exact (encodedAs_of_mem_catalog r hr).encode_build b1 b2

theorem build_f3_wordBytes (mk : Word → Instr) (w : Word) :
    (Shape.f3 mk).build (loByte w) (hiByte w) = mk w :=
  congrArg mk (wordOf_hiByte_loByte w)

/-- Every instruction is built by the row of its first byte, from no operand, a byte or a word (R80, R90). -/
theorem exists_row (i : Instr) :
    ∃ op r b1 b2, (encode i).head? = some op ∧ pageGet op = some r ∧ r.shape.build b1 b2 = i := by
  cases i with
  | aslAcc | brk | clc | cld | cli | clv | dex | dey | inx | iny | lsrAcc | nop | pha | php | pla | plp | rolAcc
  | rorAcc | rti | rts | sec | sed | sei | tax | tay | tsx | txa | txs | tya =>
    exact ⟨_, _, 0, 0, rfl, rfl, rfl⟩
  | adcIndX b | adcZp b | adcImm b | adcIndY b | adcZpX b | andIndX b | andZp b | andImm b | andIndY b | andZpX b
  | aslZp b | aslZpX b | bcc b | bcs b | beq b | bitZp b | bmi b | bne b | bpl b | bvc b | bvs b | cmpIndX b
  | cmpZp b | cmpImm b | cmpIndY b | cmpZpX b | cpxImm b | cpxZp b | cpyImm b | cpyZp b | decZp b | decZpX b
  | eorIndX b | eorZp b | eorImm b | eorIndY b | eorZpX b | incZp b | incZpX b | ldaIndX b | ldaZp b | ldaImm b
  | ldaIndY b | ldaZpX b | ldxImm b | ldxZp b | ldxZpY b | ldyImm b | ldyZp b | ldyZpX b | lsrZp b | lsrZpX b
  | oraIndX b | oraZp b | oraImm b | oraIndY b | oraZpX b | rolZp b | rolZpX b | rorZp b | rorZpX b | sbcIndX b
  | sbcZp b | sbcImm b | sbcIndY b | sbcZpX b | staIndX b | staZp b | staIndY b | staZpX b | stxZp b | stxZpY b
  | styZp b | styZpX b =>
    exact ⟨_, _, b, 0, rfl, rfl, rfl⟩
  | adcAbs w | adcAbsY w | adcAbsX w | andAbs w | andAbsY w | andAbsX w | aslAbs w | aslAbsX w | bitAbs w
  | cmpAbs w | cmpAbsY w | cmpAbsX w | cpxAbs w | cpyAbs w | decAbs w | decAbsX w | eorAbs w | eorAbsY w
  | eorAbsX w | incAbs w | incAbsX w | jmpAbs w | jmpInd w | jsr w | ldaAbs w | ldaAbsY w | ldaAbsX w | ldxAbs w
  | ldxAbsY w | ldyAbs w | ldyAbsX w | lsrAbs w | lsrAbsX w | oraAbs w | oraAbsY w | oraAbsX w | rolAbs w
  | rolAbsX w | rorAbs w | rorAbsX w | sbcAbs w | sbcAbsY w | sbcAbsX w | staAbs w | staAbsY w | staAbsX w
  | stxAbs w | styAbs w =>
    exact ⟨_, _, loByte w, hiByte w, rfl, rfl, build_f3_wordBytes _ w⟩

/-! ### The obligations -/

/-- Settles O2: the encoding is the opcode and operand bytes of the instruction's row, which the decoder accepts. -/
theorem decodeEncodeRoundTrip : Obligations.DecodeEncodeRoundTrip := by
  intro i rest
  obtain ⟨op, r, b1, b2, -, hpage, rfl⟩ := exists_row i
  have hget := catalogGet_of_pageGet hpage
  exact decode_eq_instr_iff.2 ⟨op, r, b1, b2, hget, rfl, by rw [encode_build hget]⟩

/-- Settles O3: an accepted string begins with the opcode and operand bytes of a row, which encode what it builds. -/
theorem encodeDecodeRoundTrip : Obligations.EncodeDecodeRoundTrip := by
  intro bytes rest i h
  obtain ⟨op, r, b1, b2, hget, rfl, rfl⟩ := decode_eq_instr_iff.1 h
  rw [encode_build hget]

/-- Settles O4, by the sorted table and the contract of the lookup. -/
theorem catalogCodesUnique : Obligations.CatalogCodesUnique :=
  ⟨rfl, (codesWellFormed_iff_nodup _).2 catalogCodes_nodup, codesWellFormed_iff_nodup,
    fun _ _ => catalogGet_eq_some_iff, fun _ => catalogGet_eq_none_iff⟩

/-- Settles O5: the decoder refuses by name what the catalog lacks, and that is the list. -/
theorem illegalBytesRefused : Obligations.IllegalBytesRefused := by
  have hnone (code : Byte) : catalogGet code = none ↔ code ∈ illegalBytes :=
    catalogGet_eq_none_iff_not_mem.trans (not_mem_catalogCodes_iff code)
  exact ⟨rfl, hnone, fun code _ => decode_cons_eq_unknownOpcode_iff.trans (hnone code)⟩

/-- Settles O1: the fifteen words are encodings, written out, of their instructions; the two refusals by evaluation. -/
theorem specWordsDecode : Obligations.SpecWordsDecode :=
  ⟨decodeEncodeRoundTrip (.ldaImm 0xC0) [], decodeEncodeRoundTrip (.ldxZpY 0xFF) [],
    decodeEncodeRoundTrip (.staAbs 0x1234) [], decodeEncodeRoundTrip .tax [],
    decodeEncodeRoundTrip (.adcIndY 0x40) [], decodeEncodeRoundTrip (.bitAbs 0x0200) [],
    decodeEncodeRoundTrip (.incAbsX 0x0200) [], decodeEncodeRoundTrip .aslAcc [],
    decodeEncodeRoundTrip (.rorAbsX 0x02FF) [], decodeEncodeRoundTrip (.jmpInd 0x02FF) [],
    decodeEncodeRoundTrip (.jsr 0x8010) [], decodeEncodeRoundTrip (.bne 0xFB) [],
    decodeEncodeRoundTrip .php [], decodeEncodeRoundTrip .sei [], decodeEncodeRoundTrip .brk [], rfl, rfl⟩

end Sys2Proof.Proofs
end

section
/-! SUPPORT. The step of the engine (40_engine_and_resolver.md R110, R111, R131): when the fetch gives an instruction
and when it gives `UnknownOpcode`, said once, and with it what a step runs, raises and halts by. -/

namespace Sys2Proof.Proofs

open Sys2Proof.Machine Sys2Proof.Claims

/-! ### The fetch -/

/-- Row by row of R90, what a format makes has the row's mnemonic. -/
theorem mnemonic_build_of_mem_catalog :
    ∀ r ∈ catalog, ∀ b1 b2, (r.shape.build b1 b2).mnemonic = r.desc.mnemonic := by
  refine List.forall_iff_forall_mem.1 ?_
  repeat' constructor
  all_goals exact fun _ _ => rfl

/-- A format that accepts two bytes makes of them what it builds of them. -/
theorem build_of_take_pair {shape : Shape} {b1 b2 : Byte} {i : Instr} {rest : List Byte}
    (h : shape.take [b1, b2] = .instr i rest) : shape.build b1 b2 = i := by
  cases shape with
  | f1 | f2 | f3 => exact (Decoded.instr.inj h).1

theorem implements_default (m : Mnemonic) : Config.default.implements m = true := by
  cases m <;> rfl

section
variable {cfg : Config} {s : State}

/-- The fetch gives what the row of the byte at PC builds of the next two bytes, if the row's mnemonic has a handler. -/
theorem fetchInstr_eq_ok_iff {i : Instr} :
    fetchInstr cfg s = .ok i ↔
      ∃ r, catalogGet (s.readByte s.pc) = some r ∧ cfg.implements r.desc.mnemonic = true ∧
        r.shape.build (s.readByte (s.pc + 1)) (s.readByte (s.pc + 2)) = i := by
  cases hget : catalogGet (s.readByte s.pc) with
  | none => simp [fetchInstr, hget]
  | some r => cases himp : cfg.implements r.desc.mnemonic <;> simp [fetchInstr, hget, himp]

/-- The fetch fails exactly when the byte at PC has no row, or one whose mnemonic has no handler (R111). -/
theorem fetchInstr_eq_error_iff :
    fetchInstr cfg s = .error (.unknownOpcode (s.readByte s.pc)) ↔
      ∀ r, catalogGet (s.readByte s.pc) = some r → cfg.implements r.desc.mnemonic = false := by
  cases hget : catalogGet (s.readByte s.pc) with
  | none => simp [fetchInstr, hget]
  | some r => cases himp : cfg.implements r.desc.mnemonic <;> simp [fetchInstr, hget, himp]

/-- What is fetched is the instruction the decoder reads from the bytes at PC, if it has a handler. -/
theorem fetchInstr_of_decode {i : Instr} {rest : List Byte} (hdecode : decode (s.bytesAt s.pc 3) = .instr i rest)
    (hwf : i.wellFormed cfg = true) : fetchInstr cfg s = .ok i := by
  cases hget : catalogGet (s.readByte s.pc) with
  | none => simp [State.bytesAt, decode, hget] at hdecode
  | some r =>
    have hbuild : r.shape.build (s.readByte (s.pc + 1)) (s.readByte (s.pc + 1 + 1)) = i :=
      build_of_take_pair ((decode_cons_of_some hget _).symm.trans hdecode)
    have hpc : s.pc + 2 = s.pc + 1 + 1 := (BitVec.add_assoc s.pc 1 1).symm
    have hmn : i.mnemonic = r.desc.mnemonic :=
      hbuild ▸ mnemonic_build_of_mem_catalog r (mem_catalog_of_catalogGet hget).1 _ _
    exact fetchInstr_eq_ok_iff.2 ⟨r, hget, hmn ▸ hwf, hpc ▸ hbuild⟩

/-- The first byte of the fetched instruction's encoding stands at PC. -/
theorem head_encode_of_fetchInstr {i : Instr} (h : fetchInstr cfg s = .ok i) :
    (encode i).head? = some (s.readByte s.pc) := by
  obtain ⟨r, hget, -, rfl⟩ := fetchInstr_eq_ok_iff.1 h
  rw [encode_build hget, List.head?_cons]

/-- At the default configuration the fetch fails for the bytes of R91 alone (log 3, log 13). -/
theorem mem_illegalBytes_of_fetchInstr_error {e : StepError} (h : fetchInstr .default s = .error e) :
    s.readByte s.pc ∈ illegalBytes := by
  obtain rfl := fetchInstr_error h
  have hnone : catalogGet (s.readByte s.pc) = none :=
    Option.eq_none_iff_forall_ne_some.2 fun r hget => by
      simpa [implements_default] using fetchInstr_eq_error_iff.1 h r hget
  exact (illegalBytesRefused.2.1 _).1 hnone

end

/-! ### The obligations -/

/-- Settles O6: the fetch and the decoder read the same catalog row. -/
theorem stepRunsDecodedInstruction : Obligations.StepRunsDecodedInstruction := by
  intro cfg s i rest hrun hdecode hwf
  have hstep : engineStep cfg s = exec i s := engineStep_exec hrun (fetchInstr_of_decode hdecode hwf)
  exact ⟨hstep, by rintro rfl; exact hstep⟩

/-- Settles O7: the fetch fails, and to raise its error writes run state and fault alone. -/
theorem unknownOpcodeHaltsPrecisely : Obligations.UnknownOpcodeHaltsPrecisely :=
  fun _ _ hrun hno => engineStep_raise hrun (fetchInstr_eq_error_iff.2 hno)

theorem eq_brk_of_mnemonic {i : Instr} (h : i.mnemonic = .brk) : i = .brk := by
  cases i <;> simp [Instr.mnemonic] at h ⊢

/-- Settles O10: of the things a step can do, a raise halts for an illegal byte, and of the instructions only BRK
halts, whose encoding is the byte 0x00. -/
theorem engineHaltsOnlyByBrkOrRaise : Obligations.EngineHaltsOnlyByBrkOrRaise := by
  intro s t hrun hstep hhalt
  obtain ⟨hhalted, -⟩ | ⟨-, i, hfetch, hexec⟩ | ⟨-, hfetch, hraise⟩ := engineStep_cases .default s
  · simp [hrun] at hhalted
  · have hstores := exec_storesWithin (hexec.symm.trans hstep)
    obtain hkept | ⟨hmn, -⟩ := hstores.runState
    · simp [hkept, hrun] at hhalt
    · obtain rfl := eq_brk_of_mnemonic hmn
      exact .inl ⟨(Option.some.inj (head_encode_of_fetchInstr hfetch)).symm, hstores.fault⟩
  · obtain rfl := Host.Outcome.next.inj (hraise.symm.trans hstep)
    exact .inr ⟨mem_illegalBytes_of_fetchInstr_error hfetch, rfl⟩

end Sys2Proof.Proofs
end

section
/-! SUPPORT. Where PC ends (40_engine_and_resolver.md R113): every instruction that transfers no control ends at
`pc_next`. -/

namespace Sys2Proof.Proofs

open Sys2Proof.Machine

section
variable {tag : AddressMode} {opnd : Operand} {s t : State}

theorem withEa_pc {h : Word → State → State} (ht : tag ≠ .noAddress) (hrun : withEa tag opnd h s = .next t) :
    t.pc = s.pc + opnd.length := by
  obtain ⟨ea, -, hnext⟩ := withEa_next s opnd ht h
  obtain rfl := Host.Outcome.next.inj (hnext.symm.trans hrun)
  rfl

theorem readForm_pc {h : Byte → State → State} (ht : tag ≠ .noAddress) (hrun : readForm tag opnd h s = .next t) :
    t.pc = s.pc + opnd.length := withEa_pc ht hrun

theorem writeForm_pc {v : Byte} (ht : tag ≠ .noAddress) (hrun : writeForm tag opnd v s = .next t) :
    t.pc = s.pc + opnd.length := withEa_pc ht hrun

theorem modifyForm_pc {f : Byte → Byte → Byte × Byte} (ht : tag ≠ .noAddress)
    (hrun : modifyForm tag opnd f s = .next t) : t.pc = s.pc + opnd.length := withEa_pc ht hrun

theorem impliedForm_pc {h : State → State} (hrun : impliedForm h s = .next t) : t.pc = s.pc + 1 := by
  obtain rfl := Host.Outcome.next.inj hrun
  rfl

/-- Access class by access class (R133), the length of the operand is that of the encoding. -/
theorem exec_pc {i : Instr} (hi : i.mnemonic ∉ controlTransfers) (h : exec i s = .next t) :
    t.pc = s.pc + BitVec.ofNat 16 i.length := by
  unfold exec at h
  cases i with
  | adcIndX | adcZp | adcImm | adcAbs | adcIndY | adcZpX | adcAbsY | adcAbsX | sbcIndX | sbcZp | sbcImm | sbcAbs
  | sbcIndY | sbcZpX | sbcAbsY | sbcAbsX | andIndX | andZp | andImm | andAbs | andIndY | andZpX | andAbsY | andAbsX
  | oraIndX | oraZp | oraImm | oraAbs | oraIndY | oraZpX | oraAbsY | oraAbsX | eorIndX | eorZp | eorImm | eorAbs
  | eorIndY | eorZpX | eorAbsY | eorAbsX | cmpIndX | cmpZp | cmpImm | cmpAbs | cmpIndY | cmpZpX | cmpAbsY | cmpAbsX
  | cpxImm | cpxZp | cpxAbs | cpyImm | cpyZp | cpyAbs | bitZp | bitAbs | ldaIndX | ldaZp | ldaImm | ldaAbs
  | ldaIndY | ldaZpX | ldaAbsY | ldaAbsX | ldxImm | ldxZp | ldxAbs | ldxZpY | ldxAbsY | ldyImm | ldyZp | ldyAbs
  | ldyZpX | ldyAbsX =>
    exact (readForm_pc (by decide) h).trans rfl
  | staIndX | staZp | staAbs | staIndY | staZpX | staAbsY | staAbsX | stxZp | stxAbs | stxZpY | styZp | styAbs
  | styZpX =>
    exact (writeForm_pc (by decide) h).trans rfl
  | incZp | incAbs | incZpX | incAbsX | decZp | decAbs | decZpX | decAbsX | aslZp | aslAbs | aslZpX | aslAbsX
  | lsrZp | lsrAbs | lsrZpX | lsrAbsX | rolZp | rolAbs | rolZpX | rolAbsX | rorZp | rorAbs | rorZpX | rorAbsX =>
    exact (modifyForm_pc (by decide) h).trans rfl
  | aslAcc | lsrAcc | rolAcc | rorAcc | clc | sec | cli | sei | cld | sed | clv | inx | iny | dex | dey | tax
  | tay | txa | tya | tsx | txs | pha | php | pla | plp | nop | brk =>
    exact impliedForm_pc h
  | jmpAbs | jmpInd | jsr | rts | rti | bcc | bcs | beq | bne | bmi | bpl | bvc | bvs =>
    simp [Instr.mnemonic, controlTransfers] at hi

end

/-- Settles O57, by where PC ends and by what an instruction may do to run state and fault. -/
theorem pcAdvancesByLength : Obligations.PcAdvancesByLength := by
  intro i s t h
  have hstores := exec_storesWithin h
  exact ⟨fun hi => exec_pc hi h,
    fun hi => hstores.runState.resolve_right fun ⟨hmn, _⟩ => hi (eq_brk_of_mnemonic hmn), hstores.fault⟩

end Sys2Proof.Proofs
end

section
/-! SUPPORT. The resolver and the stack primitives as numbers (40_engine_and_resolver.md R114 to R123, R127 to R130). -/

namespace Sys2Proof.Proofs

open Sys2Proof.Machine

/-! ### The resolver -/

theorem zext16_eq_ofNat (b : Byte) : zext16 b = BitVec.ofNat 16 b.toNat :=
  BitVec.eq_of_toNat_eq (by simp [zext16])

/-- Below the top of page 0 the next address of the page is the next address of memory. -/
theorem zext16_add_one {p : Byte} (hp : p ≠ 0xFF) : zext16 (p + 1) = zext16 p + 1 := by
  have hlt : p.toNat ≠ 255 := fun h => hp (BitVec.eq_of_toNat_eq h)
  apply BitVec.eq_of_toNat_eq
  rw [BitVec.toNat_add, zext16_toNat, zext16_toNat, BitVec.toNat_add]
  simp
  omega

theorem zpWord_toNat (s : State) (p : Byte) :
    (s.zpWord p).toNat = (s.readByte (zext16 p)).toNat + 256 * (s.readByte (zext16 (p + 1))).toNat := by
  rw [State.zpWord, wordOf_toNat]
  omega

/-- Settles O22: the fetch of the high byte wraps at 0xFF, where the word read goes on to 0x0100. -/
theorem zpWordWrapsInPageZero : Obligations.ZpWordWrapsInPageZero := by
  refine ⟨fun s p => ?_, fun s p hp => ?_, State.reset.writeByte 0x0000 0x01, by decide⟩
  · rw [zpWord_toNat, zext16_eq_ofNat, zext16_eq_ofNat, BitVec.toNat_add]
    rfl
  · rw [State.zpWord, State.readWord, zext16_add_one hp]

theorem add_zext16_toNat (w : Word) (b : Byte) : (w + zext16 b).toNat = (w.toNat + b.toNat) % 65536 := by
  rw [BitVec.toNat_add, zext16_toNat]

theorem zext16_add_toNat (b c : Byte) : (zext16 (b + c)).toNat = (b.toNat + c.toNat) % 256 := by
  rw [zext16_toNat, BitVec.toNat_add]

/-- Settles O23: each address as the resolver computes it, then as a number; the forms by the rows of the catalog. -/
theorem resolverEffectiveAddresses : Obligations.ResolverEffectiveAddresses := by
  refine ⟨fun pcOp b w s => ?_, by decide +kernel, by decide +kernel⟩
  exact ⟨rfl, ⟨_, rfl, zext16_toNat b⟩, ⟨_, rfl, zext16_add_toNat b s.x⟩, ⟨_, rfl, zext16_add_toNat b s.y⟩, rfl,
    ⟨_, rfl, add_zext16_toNat w s.x⟩, ⟨_, rfl, add_zext16_toNat w s.y⟩, rfl,
    ⟨_, rfl, add_zext16_toNat (s.zpWord b) s.y⟩⟩

/-! ### The stack primitives -/

section
variable (s : State) (v : Byte) (w : Word)

theorem keeps_setSp : Keeps [.sp] [] s (s.setSp v) where
  reg r hr := by cases r <;> simp at hr ⊢
  flag _ _ := rfl
  runState := rfl
  fault := rfl

theorem keeps_push8 : Keeps [.sp] [] s (push8 v s) :=
  have hsp := keeps_setSp s (s.sp - 1)
  ⟨hsp.reg, hsp.flag, rfl, rfl⟩

theorem keepsMemBut_push8 : KeepsMemBut [stackAddr s.sp] s (push8 v s) := by
  intro a ha
  rw [push8_readByte, if_neg (List.ne_of_not_mem_cons ha)]

/-- The location below the one at the top of the stack is another one, at SP 0x00 too. -/
theorem stackAddr_ne_sub_one (sp : Byte) : stackAddr sp ≠ stackAddr (sp - 1) := by
  rw [Ne, stackAddr_inj, eq_comm, sub_eq_self]
  decide

/-- The word pushed is the word pulled (R130), its low byte one location below its high byte. -/
theorem pull16_push16_fst : (pull16 (push16 w s)).1 = w := by
  have hhigh : s.sp - 1 - 1 + 1 + 1 = s.sp := by simp
  have hlow : s.sp - 1 - 1 + 1 = s.sp - 1 := by simp
  rw [pull16_fst, push16_readByte, push16_readByte, push16_sp, hhigh, hlow, if_neg (stackAddr_ne_sub_one _),
    if_pos rfl, if_pos rfl, wordOf_hiByte_loByte]

theorem pull16_push16_sp : (pull16 (push16 w s)).2.sp = s.sp := by simp

theorem keeps_pull16_push16 : Keeps [] [] s (pull16 (push16 w s)).2 where
  reg r _ := by cases r <;> simp
  flag f _ := by simp [State.flag]
  runState := by simp
  fault := by simp

end

/-- Settles O24, by the stack location as a number and the frames of push and pull. -/
theorem stackPrimitivesStayInStackPage : Obligations.StackPrimitivesStayInStackPage := by
  intro v s
  have hpulled : stackAddr (s.sp + 1) = BitVec.ofNat 16 (0x0100 + (s.sp.toNat + 1) % 256) := by
    apply BitVec.eq_of_toNat_eq
    rw [stackAddr_toNat, BitVec.toNat_add, BitVec.toNat_ofNat]
    simp
    omega
  refine ⟨stackAddr_toNat s.sp, by simp [push8_readByte], keepsMemBut_push8 s v, keeps_push8 s v, ?_, rfl,
    congrArg s.readByte hpulled, fun _ => rfl, keeps_setSp s _, ?_, rfl⟩
  · simp [BitVec.toNat_sub]
    omega
  · simp

/-- Settles O25: the word and SP come back, and nothing else of the registers was written. -/
theorem pull16UndoesPush16 : Obligations.Pull16UndoesPush16 :=
  fun w s => ⟨pull16_push16_fst s w, pull16_push16_sp s w, keeps_pull16_push16 s w⟩

end Sys2Proof.Proofs
end

section
/-! SUPPORT. One rule per shape of an instruction that ends at `pc_next` (40_engine_and_resolver.md R113, R133): what
`SetsReg` and `Stores` ask follows from the encoding and from the state `exec` answers. -/

namespace Sys2Proof.Proofs

open Sys2Proof.Machine Sys2Proof.Claims

/-- Writes the register `r` and no other field. -/
def setReg (r : Reg) (v : Byte) (s : State) : State :=
  match r with
  | .a => s.setA v
  | .x => s.setX v
  | .y => s.setY v
  | .sp => s.setSp v

/-- `r <- v; setZN(r)`, as a load or a transfer does (41_load_store_transfer.md R140 to R150). -/
def loadReg (r : Reg) (v : Byte) (s : State) : State := (setReg r v s).setP (setZN v s.p)

section
variable (r : Reg) (v : Byte) (s : State)

theorem setReg_reg_self : (setReg r v s).reg r = v := by cases r <;> rfl

theorem setReg_reg_ne {r q : Reg} (h : q ≠ r) : (setReg r v s).reg q = s.reg q := by
  cases r <;> cases q <;> simp [setReg] at h ⊢

theorem setReg_runState : (setReg r v s).runState = s.runState := by cases r <;> rfl

theorem setReg_fault : (setReg r v s).fault = s.fault := by cases r <;> rfl

theorem setReg_mem : (setReg r v s).mem = s.mem := by cases r <;> rfl

theorem zn_loadReg : ZN v (loadReg r v s) :=
  have ⟨hzero, hnegative, _⟩ := setZNWritesZeroAndNegative v s.p
  ⟨hzero, hnegative⟩

theorem keeps_loadReg : Keeps [r] [.zero, .negative] s (loadReg r v s) where
  reg q hq := setReg_reg_ne v s (List.ne_of_not_mem_cons hq)
  flag f hf := by
    obtain ⟨hzero, hnegative⟩ : f ≠ .zero ∧ f ≠ .negative := by simpa using hf
    obtain ⟨-, -, hother⟩ := setZNWritesZeroAndNegative v s.p
    exact hother f hzero hnegative
  runState := setReg_runState r v s
  fault := setReg_fault r v s

theorem keepsMem_loadReg : KeepsMem s (loadReg r v s) := State.readByte_of_mem_eq (setReg_mem r v s)

theorem keeps_writeByte (ea : Word) : Keeps [] [] s (s.writeByte ea v) :=
  ⟨fun r _ => by cases r <;> rfl, fun _ _ => rfl, rfl, rfl⟩

end

section
variable {i : Instr} {bytes : List Byte} {s t : State}

/-- PC is no part of what `Keeps` speaks of. -/
theorem keeps_setPc {regs : List Reg} {flags : List Flag} (h : Keeps regs flags s t) (pc : Word) :
    Keeps regs flags s (t.setPc pc) :=
  ⟨h.reg, h.flag, h.runState, h.fault⟩

/-- An instruction whose meaning leaves `t` with PC at `pc_next`. -/
theorem runsOn_of_exec {post : State → Prop} (henc : encode i = bytes)
    (hexec : exec i s = .next (t.setPc (s.pc + BitVec.ofNat 16 bytes.length)))
    (hpost : post (t.setPc (s.pc + BitVec.ofNat 16 bytes.length))) : RunsOn i bytes s post :=
  ⟨henc, _, hexec, rfl, hpost⟩

/-- An instruction that writes one register and sets Z and N from it. -/
theorem setsReg_of_exec {r : Reg} {v : Byte} (henc : encode i = bytes)
    (hexec : exec i s = .next ((loadReg r v s).setPc (s.pc + BitVec.ofNat 16 bytes.length))) :
    SetsReg r i bytes v s :=
  runsOn_of_exec henc hexec
    ⟨setReg_reg_self r v s, zn_loadReg r v s, keeps_setPc (keeps_loadReg r v s) _, keepsMem_loadReg r v s⟩

/-- An instruction that writes one byte of memory and nothing else. -/
theorem stores_of_exec {ea : Word} {v : Byte} (henc : encode i = bytes)
    (hexec : exec i s = .next ((s.writeByte ea v).setPc (s.pc + BitVec.ofNat 16 bytes.length))) :
    Stores i bytes ea v s :=
  have ⟨hread, hmem, _⟩ := writeByteChangesOneCell s ea v
  runsOn_of_exec henc hexec ⟨hread, keeps_setPc (keeps_writeByte v s ea) _, hmem⟩

end

end Sys2Proof.Proofs
end

section
/-! SUPPORT. Loads, stores and register transfers (41_load_store_transfer.md): each encoding and each meaning, as
`encode` and `exec` compute them, fits one of the rules above. -/

namespace Sys2Proof.Proofs

open Sys2Proof.Machine Sys2Proof.Claims

/-- Settles O28: each form leaves A loaded with its operand byte, at `pc_next`. -/
theorem ldaLoadsOperand : Obligations.LdaLoadsOperand := by
  intro b w s
  refine ⟨?_, ?_, ?_, ?_, ?_, ?_, ?_, ?_⟩
  all_goals exact setsReg_of_exec rfl rfl

/-- Settles O29: each form leaves X or Y loaded with its operand byte, at `pc_next`. -/
theorem ldxLdyLoadOperand : Obligations.LdxLdyLoadOperand := by
  intro b w s
  refine ⟨?_, ?_, ?_, ?_, ?_, ?_, ?_, ?_, ?_, ?_⟩
  all_goals exact setsReg_of_exec rfl rfl

/-- STA writes memory, and no form of such an instruction is Immediate (40_engine_and_resolver.md R114). -/
theorem sta_form_ne_immediate : ∀ r ∈ catalog, r.desc.mnemonic = .sta → r.desc.form ≠ .immediate := by
  obtain ⟨-, hwriters, -⟩ := resolverEffectiveAddresses
  intro r hr hsta himm
  have hsta_writes : Mnemonic.sta ∈ memWriters := by decide
  exact hwriters r hr himm (hsta ▸ hsta_writes)

/-- Settles O30: each form leaves the byte of its register at its effective address, with PC at `pc_next`. -/
theorem storesWriteOneByte : Obligations.StoresWriteOneByte := by
  intro b w s
  refine ⟨?_, ?_, ?_, ?_, ?_, ?_, ?_, ?_, ?_, ?_, ?_, ?_, ?_, sta_form_ne_immediate⟩
  all_goals exact stores_of_exec rfl rfl

/-- Settles O31: five transfers are loads of their source; TXS writes SP alone. -/
theorem transfersCopyRegisters : Obligations.TransfersCopyRegisters := by
  intro s
  refine ⟨?tax, ?tay, ?txa, ?tya, ?tsx, ?txs⟩
  case txs => exact runsOn_of_exec rfl rfl ⟨rfl, keeps_setPc (keeps_setSp s s.x) _, fun _ => rfl⟩
  all_goals exact setsReg_of_exec rfl rfl

end Sys2Proof.Proofs
end

section
/-! SUPPORT. The arithmetic of ADC and SBC on bytes (42_arithmetic_logic.md R160, R161): both readings of the overflow,
and the subtraction as an addition of the one's complement. -/

namespace Sys2Proof.Proofs

open Sys2Proof.Machine

/-! ### The sign bit -/

/-- The sign bit as ADC tests it, by the mask 0x80 (42_arithmetic_logic.md R160). -/
theorem and_0x80_bne_zero (x : Byte) : ((x &&& 0x80#8) != 0) = x.getLsbD 7 := by
  have hmask : (0x80#8) = BitVec.twoPow 8 7 := rfl
  rw [hmask, BitVec.and_twoPow]
  cases x.getLsbD 7 <;> rfl

theorem getLsbD_seven_eq_decide (x : Byte) : x.getLsbD 7 = decide (128 ≤ x.toNat) :=
  x.msb_eq_getLsbD_last.symm.trans x.msb_eq_decide

/-- The signed value of a byte: its number, less 256 if the sign bit is set. -/
theorem toInt_eq_ite (x : Byte) : x.toInt = if 128 ≤ x.toNat then (x.toNat : Int) - 256 else x.toNat := by
  rw [BitVec.toInt_eq_msb_cond, BitVec.msb_eq_decide]
  simp

/-- The two readings of an addition's overflow: the sign bits of the addends against the result's, and the range of
the signed sum. -/
theorem sign_bits_iff_signed_range {a m r : Byte} {c : Nat} (hc : c ≤ 1)
    (hr : r.toNat = (a.toNat + m.toNat + c) % 256) :
    (a.getLsbD 7 = m.getLsbD 7 ∧ r.getLsbD 7 ≠ a.getLsbD 7) ↔
      a.toInt + m.toInt + c < -128 ∨ 127 < a.toInt + m.toInt + c := by
  have ha := a.isLt
  have hm := m.isLt
  simp only [toInt_eq_ite, getLsbD_seven_eq_decide, ne_eq, decide_eq_decide]
  split <;> split <;> omega

/-- The one's complement of a byte, as a signed number, is its negation less one. -/
theorem not_toInt (m : Byte) : (~~~m).toInt = -1 - m.toInt := by
  have hm := m.isLt
  rw [toInt_eq_ite, toInt_eq_ite, BitVec.toNat_not]
  split <;> split <;> omega

/-! ### ADC and SBC -/

section
variable (a m p : Byte)

theorem carryNat_le_one : carryNat p ≤ 1 := Bool.toNat_le _

theorem adc_carry : testFlag (adc a m p).2 .carry = true ↔ a.toNat + m.toNat + carryNat p > 255 := by
  simp [testFlag_adc]

/-- V of ADC, read off the sign bits (R160). -/
theorem adc_overflow_bits :
    testFlag (adc a m p).2 .overflow = true ↔
      a.getLsbD 7 = m.getLsbD 7 ∧ (adc a m p).1.getLsbD 7 ≠ a.getLsbD 7 := by
  have hflag : testFlag (adc a m p).2 .overflow =
      ((a ^^^ (adc a m p).1) &&& (m ^^^ (adc a m p).1)).getLsbD 7 := by
    rw [testFlag_adc, ← and_0x80_bne_zero]
    simp
  rw [hflag, BitVec.getLsbD_and, BitVec.getLsbD_xor, BitVec.getLsbD_xor]
  cases a.getLsbD 7 <;> cases m.getLsbD 7 <;> cases (adc a m p).1.getLsbD 7 <;> decide

/-- V of ADC, read off the signed sum (R160). -/
theorem adc_overflow_signed :
    testFlag (adc a m p).2 .overflow = true ↔
      a.toInt + m.toInt + carryNat p < -128 ∨ 127 < a.toInt + m.toInt + carryNat p :=
  (adc_overflow_bits a m p).trans (sign_bits_iff_signed_range (carryNat_le_one p) (adc_toNat a m p))

theorem testFlag_adc_of_not_mem {f : Flag} (hf : f ∉ [Flag.carry, .overflow, .zero, .negative]) :
    testFlag (adc a m p).2 f = testFlag p f := by
  simp only [List.mem_cons, List.not_mem_nil, or_false, not_or] at hf
  simp [testFlag_adc, hf]

/-- SBC is ADC of the operand's one's complement (R161). -/
theorem sbc_eq_adc_not : sbc a m p = adc a (~~~m) p := congrArg (adc a · p) BitVec.xor_allOnes

theorem sbc_toNat :
    ((sbc a m p).1.toNat : Int) = ((a.toNat : Int) - m.toNat - (1 - carryNat p)) % 256 := by
  have hm := m.isLt
  rw [sbc_eq_adc_not, adc_toNat, BitVec.toNat_not]
  omega

theorem sbc_carry :
    testFlag (sbc a m p).2 .carry = true ↔ (m.toNat : Int) + (1 - carryNat p) ≤ a.toNat := by
  have hm := m.isLt
  rw [sbc_eq_adc_not, adc_carry, BitVec.toNat_not]
  omega

/-- V of SBC, read off the sign bits (R161). -/
theorem sbc_overflow_bits :
    testFlag (sbc a m p).2 .overflow = true ↔
      a.getLsbD 7 ≠ m.getLsbD 7 ∧ (sbc a m p).1.getLsbD 7 ≠ a.getLsbD 7 := by
  rw [sbc_eq_adc_not, adc_overflow_bits, BitVec.getLsbD_not]
  simp [Bool.eq_not]

/-- V of SBC, read off the signed difference (R161). -/
theorem sbc_overflow_signed :
    testFlag (sbc a m p).2 .overflow = true ↔
      a.toInt - m.toInt - (1 - carryNat p) < -128 ∨ 127 < a.toInt - m.toInt - (1 - carryNat p) := by
  rw [sbc_eq_adc_not, adc_overflow_signed, not_toInt]
  omega

end

end Sys2Proof.Proofs
end

section
/-! SUPPORT. Arithmetic and logic (42_arithmetic_logic.md): one rule per kind of instruction, what `Adds`, `Subtracts`,
`Compares`, `Tests` and `Modifies` ask from the encoding and from the state `exec` answers; then each instruction
by the rule it fits. -/

namespace Sys2Proof.Proofs

open Sys2Proof.Machine Sys2Proof.Claims

section
variable {i : Instr} {bytes : List Byte} {s t : State}

/-! ### P after a handler -/

/-- A write of P adds the flags it changes to what `Keeps` leaves out. -/
theorem keeps_setP {regs : List Reg} {flags : List Flag} {q : Byte} (h : Keeps regs [] s t)
    (hq : ∀ f, f ∉ flags → testFlag q f = testFlag s.p f) : Keeps regs flags s (t.setP q) :=
  ⟨h.reg, hq, h.runState, h.fault⟩

theorem keeps_refl (s : State) : Keeps [] [] s s := ⟨fun _ _ => rfl, fun _ _ => rfl, rfl, rfl⟩

theorem keeps_setA (v : Byte) (s : State) : Keeps [.a] [] s (s.setA v) :=
  ⟨fun _ hr => setReg_reg_ne (r := .a) v s (List.ne_of_not_mem_cons hr), fun _ _ => rfl, rfl, rfl⟩

/-- `ZN` speaks of P alone: it holds of every state whose P is `setZN` of the value. -/
theorem zn_of_status {v p : Byte} (hp : t.p = setZN v p) : ZN v t := by
  obtain ⟨hzero, hnegative, -⟩ := setZNWritesZeroAndNegative v p
  unfold ZN State.flag
  rw [hp]
  exact ⟨hzero, hnegative⟩

theorem testFlag_setZN_of_not_mem (v p : Byte) {f : Flag} (hf : f ∉ [Flag.zero, .negative]) :
    testFlag (setZN v p) f = testFlag p f := by
  obtain ⟨hzero, hnegative⟩ : f ≠ .zero ∧ f ≠ .negative := by simpa using hf
  obtain ⟨-, -, hother⟩ := setZNWritesZeroAndNegative v p
  exact hother f hzero hnegative

theorem testFlag_compareStatus_of_not_mem (r m p : Byte) {f : Flag} (hf : f ∉ [Flag.carry, .zero, .negative]) :
    testFlag (compareStatus r m p) f = testFlag p f := by
  simp only [List.mem_cons, List.not_mem_nil, or_false, not_or] at hf
  simp [testFlag_compareStatus, hf]

theorem testFlag_bitTest_of_not_mem (a m p : Byte) {f : Flag} (hf : f ∉ [Flag.zero, .negative, .overflow]) :
    testFlag (bitTest a m p) f = testFlag p f := by
  simp only [List.mem_cons, List.not_mem_nil, or_false, not_or] at hf
  simp [testFlag_bitTest, hf]

/-! ### The rules -/

theorem adds_of_exec {m : Byte} (henc : encode i = bytes)
    (hexec : exec i s = .next ((intoA adc m s).setPc (s.pc + BitVec.ofNat 16 bytes.length))) :
    Adds i bytes m s :=
  runsOn_of_exec henc hexec
    ⟨adc_toNat s.a m s.p, adc_carry s.a m s.p, adc_overflow_bits s.a m s.p, adc_overflow_signed s.a m s.p,
      zn_of_status rfl,
      keeps_setPc (keeps_setP (keeps_setA _ s) fun _ => testFlag_adc_of_not_mem s.a m s.p) _, fun _ => rfl⟩

theorem subtracts_of_exec {m : Byte} (henc : encode i = bytes)
    (hexec : exec i s = .next ((intoA sbc m s).setPc (s.pc + BitVec.ofNat 16 bytes.length))) :
    Subtracts i bytes m s :=
  runsOn_of_exec henc hexec
    ⟨sbc_toNat s.a m s.p, sbc_carry s.a m s.p, sbc_overflow_bits s.a m s.p, sbc_overflow_signed s.a m s.p,
      zn_of_status rfl,
      keeps_setPc (keeps_setP (keeps_setA _ s) fun _ => testFlag_adc_of_not_mem s.a _ s.p) _, fun _ => rfl⟩

theorem compares_of_exec {r m : Byte} (henc : encode i = bytes)
    (hexec : exec i s =
      .next ((s.setP (compareStatus r m s.p)).setPc (s.pc + BitVec.ofNat 16 bytes.length))) :
    Compares i bytes r m s := by
  refine runsOn_of_exec henc hexec ⟨?carry, ?zero, ?negative, ?frame, fun _ => rfl⟩
  case frame => exact keeps_setPc (keeps_setP (keeps_refl s) fun _ => testFlag_compareStatus_of_not_mem r m s.p) _
  all_goals simp [State.flag_setP, testFlag_compareStatus, BitVec.msb_eq_getLsbD_last]

theorem tests_of_exec {m : Byte} (henc : encode i = bytes)
    (hexec : exec i s =
      .next ((s.setP (bitTest s.a m s.p)).setPc (s.pc + BitVec.ofNat 16 bytes.length))) :
    Tests i bytes m s := by
  refine runsOn_of_exec henc hexec ⟨?zero, ?negative, ?overflow, ?frame, fun _ => rfl⟩
  case frame => exact keeps_setPc (keeps_setP (keeps_refl s) fun _ => testFlag_bitTest_of_not_mem s.a m s.p) _
  all_goals simp [State.flag_setP, testFlag_bitTest]

theorem modifies_of_exec {ea : Word} {v : Byte} (henc : encode i = bytes)
    (hexec : exec i s =
      .next (((s.writeByte ea v).setP (setZN v s.p)).setPc (s.pc + BitVec.ofNat 16 bytes.length))) :
    Modifies i bytes ea v s :=
  have ⟨hread, hmem, _⟩ := writeByteChangesOneCell s ea v
  runsOn_of_exec henc hexec
    ⟨hread, zn_of_status rfl,
      keeps_setPc (keeps_setP (keeps_writeByte v s ea) fun _ => testFlag_setZN_of_not_mem v s.p) _, hmem⟩

end

/-! ### The obligations -/

/-- Settles O32: each form leaves A and P as `adc` of its operand byte gives them, at `pc_next`. -/
theorem adcAddsWithCarry : Obligations.AdcAddsWithCarry := by
  intro b w s
  refine ⟨?_, ?_, ?_, ?_, ?_, ?_, ?_, ?_⟩
  all_goals exact adds_of_exec rfl rfl

/-- Settles O33: each form leaves A and P as `sbc` of its operand byte gives them, at `pc_next`. -/
theorem sbcSubtractsWithBorrow : Obligations.SbcSubtractsWithBorrow := by
  intro b w s
  refine ⟨?_, ?_, ?_, ?_, ?_, ?_, ?_, ?_⟩
  all_goals exact subtracts_of_exec rfl rfl

/-- Settles O34: each form leaves A loaded with the bitwise result, at `pc_next`. -/
theorem logicOnAccumulator : Obligations.LogicOnAccumulator := by
  intro b w s
  refine ⟨?and, ?ora, ?eor⟩
  all_goals
    refine ⟨?_, ?_, ?_, ?_, ?_, ?_, ?_, ?_⟩
    all_goals exact setsReg_of_exec rfl rfl

/-- Settles O35: each form leaves P as `compareStatus` of its register and operand byte gives it, at `pc_next`. -/
theorem comparesWriteFlagsOnly : Obligations.ComparesWriteFlagsOnly := by
  intro b w s
  refine ⟨⟨?_, ?_, ?_, ?_, ?_, ?_, ?_, ?_⟩, ⟨?_, ?_, ?_⟩, ?_, ?_, ?_⟩
  all_goals exact compares_of_exec rfl rfl

theorem bit_form_ne_immediate : ∀ r ∈ catalog, r.desc.mnemonic = .bit → r.desc.form ≠ .immediate := by
  decide +kernel

/-- Settles O36: each form leaves P as `bitTest` of A and its operand byte gives it, at `pc_next`. -/
theorem bitTestsOperand : Obligations.BitTestsOperand :=
  fun _ _ _ => ⟨tests_of_exec rfl rfl, tests_of_exec rfl rfl, bit_form_ne_immediate⟩

theorem inc_form_ne_accumulator : ∀ r ∈ catalog, r.desc.mnemonic = .inc → r.desc.form ≠ .accumulator := by
  decide +kernel

/-- Settles O37: each form leaves the byte at its effective address changed by one, at `pc_next`. -/
theorem incDecMemory : Obligations.IncDecMemory := by
  intro b w s
  refine ⟨?_, ?_, ?_, ?_, ?_, ?_, ?_, ?_, inc_form_ne_accumulator⟩
  all_goals exact modifies_of_exec rfl rfl

/-- Settles O38: each is a load of its register with the register's value changed by one. -/
theorem incDecIndexRegisters : Obligations.IncDecIndexRegisters :=
  fun _ => ⟨setsReg_of_exec rfl rfl, setsReg_of_exec rfl rfl, setsReg_of_exec rfl rfl, setsReg_of_exec rfl rfl⟩

end Sys2Proof.Proofs
end

section
/-! SUPPORT. The shifts and rotates (43_shift_rotate.md): their results as numbers, the rules for `ShiftsA` and
`ShiftsMem`, and the rotates as rotations of the nine bits `{C, A}`. -/

namespace Sys2Proof.Proofs

open Sys2Proof.Machine Sys2Proof.Claims

/-! ### The results as numbers -/

section
variable (v p : Byte)

theorem asl_toNat : (asl v p).1.toNat = 2 * v.toNat % 256 := by
  rw [asl, BitVec.toNat_shiftLeft, Nat.shiftLeft_eq, mul_comm]

theorem lsr_toNat : (lsr v p).1.toNat = v.toNat / 2 % 256 := by
  have hv := v.isLt
  rw [lsr, BitVec.toNat_ushiftRight, Nat.shiftRight_eq_div_pow]
  omega

/-- The old carry enters at a bit that is clear, so the "or" of R192 and R193 adds it. -/
theorem or_carry_toNat {k : Nat} (hv : v.getLsbD k = false) :
    (v ||| BitVec.ofNat 8 (carryNat p) <<< k).toNat = (v.toNat + carryNat p * 2 ^ k) % 256 := by
  have hdisjoint : v &&& BitVec.ofNat 8 (carryNat p) <<< k = 0 := by
    cases hc : testFlag p .carry
    · simp [carryNat, hc]
    · have hbit : BitVec.ofNat 8 (carryNat p) <<< k = BitVec.twoPow 8 k := by simp [carryNat, hc, BitVec.twoPow]
      simp [hbit, BitVec.and_twoPow, hv]
  rw [← BitVec.add_eq_or_of_and_eq_zero _ _ hdisjoint]
  simp [Nat.shiftLeft_eq]

theorem rol_toNat : (rol v p).1.toNat = (2 * v.toNat + carryNat p) % 256 := by
  have hor := or_carry_toNat (v <<< 1) p (k := 0) (by simp)
  rw [BitVec.shiftLeft_zero] at hor
  rw [rol, hor, BitVec.toNat_shiftLeft, Nat.shiftLeft_eq]
  omega

theorem ror_toNat : (ror v p).1.toNat = (v.toNat / 2 + 128 * carryNat p) % 256 := by
  rw [ror, or_carry_toNat _ p (by simp), BitVec.toNat_ushiftRight, Nat.shiftRight_eq_div_pow]
  omega

end

/-! ### The rules -/

theorem testFlag_shift_of_not_mem (r p : Byte) (c : Bool) {f : Flag} (hf : f ∉ [Flag.carry, .zero, .negative]) :
    testFlag (setZN r (putFlag p .carry c)) f = testFlag p f := by
  simp only [List.mem_cons, List.not_mem_nil, or_false, not_or] at hf
  simp [testFlag_shift, hf]

section
variable {i : Instr} {bytes : List Byte} {s : State} {r : Byte} {c : Bool} {n : Nat}

/-- An instruction that leaves `r` in A, the bit `c` that left it in C, and Z and N of `r`. -/
theorem shiftsA_of_exec (henc : encode i = bytes)
    (hexec : exec i s = .next
      (((s.setA r).setP (setZN r (putFlag s.p .carry c))).setPc (s.pc + BitVec.ofNat 16 bytes.length)))
    (hr : r.toNat = n % 256) : ShiftsA i bytes n c s :=
  runsOn_of_exec henc hexec
    ⟨hr, testFlag_shift r s.p c .carry, zn_of_status rfl,
      keeps_setPc (keeps_setP (keeps_setA r s) fun _ => testFlag_shift_of_not_mem r s.p c) _, fun _ => rfl⟩

/-- As `shiftsA_of_exec`, with `r` in the byte at `ea`. -/
theorem shiftsMem_of_exec {ea : Word} (henc : encode i = bytes)
    (hexec : exec i s = .next
      (((s.writeByte ea r).setP (setZN r (putFlag s.p .carry c))).setPc (s.pc + BitVec.ofNat 16 bytes.length)))
    (hr : r.toNat = n % 256) : ShiftsMem i bytes ea n c s :=
  have ⟨hread, hmem, _⟩ := writeByteChangesOneCell s ea r
  runsOn_of_exec henc hexec
    ⟨(congrArg BitVec.toNat hread).trans hr, testFlag_shift r s.p c .carry,
      zn_of_status (congrArg (setZN · _) hread.symm),
      keeps_setPc (keeps_setP (keeps_writeByte r s ea) fun _ => testFlag_shift_of_not_mem r s.p c) _, hmem⟩

end

/-- Settles O39: each form leaves A or its byte, and P, as `asl` or `lsr` of the old byte gives them, at `pc_next`. -/
theorem aslLsrShiftByOne : Obligations.AslLsrShiftByOne := by
  intro b w s
  refine ⟨⟨shiftsA_of_exec rfl rfl (asl_toNat s.a s.p), ?_, ?_, ?_, ?_⟩,
    shiftsA_of_exec rfl rfl (lsr_toNat s.a s.p), ?_, ?_, ?_, ?_⟩
  iterate 4 exact shiftsMem_of_exec rfl rfl (asl_toNat _ s.p)
  iterate 4 exact shiftsMem_of_exec rfl rfl (lsr_toNat _ s.p)

/-- Settles O40: as O39, by `rol` and `ror`, whose results the old carry enters. -/
theorem rolRorRotateThroughCarry : Obligations.RolRorRotateThroughCarry := by
  intro b w s
  refine ⟨⟨shiftsA_of_exec rfl rfl (rol_toNat s.a s.p), ?_, ?_, ?_, ?_⟩,
    shiftsA_of_exec rfl rfl (ror_toNat s.a s.p), ?_, ?_, ?_, ?_⟩
  iterate 4 exact shiftsMem_of_exec rfl rfl (rol_toNat _ s.p)
  iterate 4 exact shiftsMem_of_exec rfl rfl (ror_toNat _ s.p)

/-! ### The rotates as rotations of nine bits -/

section
variable (v p : Byte)

/-- `{C, v}` after ROL is `{v, C}` before it (R192). -/
theorem cons_rol : BitVec.cons (testFlag (rol v p).2 .carry) (rol v p).1 = v.concat (testFlag p .carry) := by
  have hcarry := carryNat_le_one p
  have hout : (testFlag (rol v p).2 .carry).toNat = v.toNat / 128 % 2 := by
    rw [testFlag_rol]
    exact Nat.toNat_testBit v.toNat 7
  apply BitVec.eq_of_toNat_eq
  rw [BitVec.toNat_cons', BitVec.toNat_concat, hout, rol_toNat, Nat.shiftLeft_eq, ← carryNat]
  omega

/-- `{v, C}` after ROR is `{C, v}` before it (R193). -/
theorem concat_ror : (ror v p).1.concat (testFlag (ror v p).2 .carry) = BitVec.cons (testFlag p .carry) v := by
  have hcarry := carryNat_le_one p
  have hout : (testFlag (ror v p).2 .carry).toNat = v.toNat / 1 % 2 := by
    rw [testFlag_ror]
    exact Nat.toNat_testBit v.toNat 0
  apply BitVec.eq_of_toNat_eq
  rw [BitVec.toNat_cons', BitVec.toNat_concat, hout, ror_toNat, Nat.shiftLeft_eq, ← carryNat]
  omega

end

/-- The bits of `{C, A}` (R192) by position, C at 8; the positions of `Fin 9` go round in a circle. -/
def carryA (s : State) (k : Fin 9) : Bool := (BitVec.cons (s.flag .carry) s.a).getLsbD k

/-- `{A, C}` is `{C, A}` with each bit one position further on. -/
theorem getLsbD_concat_eq_carryA (s : State) (k : Fin 9) :
    (s.a.concat (s.flag .carry)).getLsbD k = carryA s (k - 1) := by
  cases k using Fin.cases with
  | zero => simp [carryA, BitVec.getElem_cons]
  | succ k =>
    have hpred : k.succ - 1 = k.castSucc := by rw [← Fin.coeSucc_eq_succ, add_sub_cancel_right]
    simp [carryA, hpred, BitVec.getLsbD_cons, k.isLt.ne]

theorem eq_of_carryA_eq {s t : State} (h : carryA t = carryA s) : t.a = s.a ∧ t.flag .carry = s.flag .carry := by
  have hcons : BitVec.cons (t.flag .carry) t.a = BitVec.cons (s.flag .carry) s.a :=
    BitVec.eq_of_getLsbD_eq fun k hk => congrFun h ⟨k, hk⟩
  constructor
  · simpa using congrArg (BitVec.setWidth 8) hcons
  · simpa using congrArg BitVec.msb hcons

/-- From every state `i` completes, each bit of `{C, A}` being the one that stood `d` positions further on. -/
def RotatesBy (d : Fin 9) (i : Instr) : Prop :=
  ∀ s, ∃ t, exec i s = .next t ∧ ∀ k, carryA t k = carryA s (k + d)

theorem rotatesBy_rolAcc : RotatesBy (-1) .rolAcc := by
  refine fun s => ⟨(modifyA rol s).setPc (s.pc + 1), rfl, fun k => ?_⟩
  rw [← sub_eq_add_neg, ← getLsbD_concat_eq_carryA]
  exact congrArg (BitVec.getLsbD · k) (cons_rol s.a s.p)

theorem rotatesBy_rorAcc : RotatesBy 1 .rorAcc := by
  refine fun s => ⟨(modifyA ror s).setPc (s.pc + 1), rfl, fun k => ?_⟩
  have hnext := getLsbD_concat_eq_carryA ((modifyA ror s).setPc (s.pc + 1)) (k + 1)
  rw [add_sub_cancel_right] at hnext
  exact hnext.symm.trans (congrArg (BitVec.getLsbD · (k + 1 : Fin 9)) (concat_ror s.a s.p))

theorem repeatExec_succ_of_exec {i : Instr} {s u : State} (h : exec i s = .next u) (n : Nat) :
    repeatExec i (n + 1) s = repeatExec i n u := by
  simp [repeatExec, h]

section
variable {d : Fin 9} {i : Instr} (hi : RotatesBy d i)
include hi

theorem repeatExec_of_rotatesBy (n : Nat) (s : State) :
    ∃ t, repeatExec i n s = some t ∧ ∀ k, carryA t k = carryA s (k + n • d) := by
  induction n generalizing s with
  | zero => exact ⟨s, rfl, by simp⟩
  | succ n ih =>
    obtain ⟨u, hu, hfirst⟩ := hi s
    obtain ⟨t, ht, hrest⟩ := ih u
    exact ⟨t, (repeatExec_succ_of_exec hu n).trans ht, fun k => by rw [hrest, hfirst, add_assoc, ← succ_nsmul]⟩

/-- Nine times `d` positions end where they began. -/
theorem repeatExec_nine_of_rotatesBy (s : State) :
    ∃ t, repeatExec i 9 s = some t ∧ t.a = s.a ∧ t.flag .carry = s.flag .carry := by
  obtain ⟨t, ht, hbits⟩ := repeatExec_of_rotatesBy hi 9 s
  have hround : 9 • d = 0 := card_nsmul_eq_zero
  exact ⟨t, ht, eq_of_carryA_eq (funext fun k => by rw [hbits, hround, add_zero])⟩

end

/-- Settles O41: ROL and ROR turn the circle of nine bits by one position, one way and the other. -/
theorem nineRotatesRestore : Obligations.NineRotatesRestore :=
  fun s => ⟨repeatExec_nine_of_rotatesBy rotatesBy_rolAcc s, repeatExec_nine_of_rotatesBy rotatesBy_rorAcc s⟩

end Sys2Proof.Proofs
end

section
/-! SUPPORT. Control transfer (44_control_transfer.md): the rules for `Jumps` and `Branches`, the target of a jump through
a pointer and of a branch as numbers, and what JSR and RTS do to the stack. -/

namespace Sys2Proof.Proofs

open Sys2Proof.Machine Sys2Proof.Claims

/-! ### Jumps -/

section
variable {i : Instr} {bytes : List Byte} {s : State}

/-- An instruction that goes to `target` and does nothing else. -/
theorem jumps_of_exec {target : Word} (henc : encode i = bytes) (hexec : exec i s = transferForm target id s) :
    Jumps i bytes target s :=
  ⟨henc, _, hexec, rfl, keeps_setPc (keeps_refl s) target, fun _ => rfl⟩

end

/-- Settles O42: the operand is the target, whatever PC is. -/
theorem jmpAbsoluteSetsPc : Obligations.JmpAbsoluteSetsPc :=
  fun _ _ => jumps_of_exec rfl rfl

theorem getLsbD_highMask : ∀ k < 16, (0xFF00 : Word).getLsbD k = decide (8 ≤ k) := by decide

theorem getLsbD_lowMask : ∀ k < 16, (0x00FF : Word).getLsbD k = decide (k < 8) := by decide

/-- The masks of R201 take the page from one word and the place in it from the other. -/
theorem masks_eq_wordOf (v w : Word) : (v &&& 0xFF00) ||| (w &&& 0x00FF) = wordOf (hiByte v) (loByte w) := by
  apply BitVec.eq_of_getLsbD_eq
  intro k hk
  rw [BitVec.getLsbD_or, BitVec.getLsbD_and, BitVec.getLsbD_and, getLsbD_highMask k hk, getLsbD_lowMask k hk,
    getLsbD_wordOf]
  by_cases hlow : k < 8
  · rw [if_pos hlow, getLsbD_loByte w hlow]
    simp [hlow]
  · have hhigh : 8 ≤ k := Nat.le_of_not_lt hlow
    rw [if_neg hlow, getLsbD_hiByte v (by omega), Nat.add_sub_cancel' hhigh]
    simp [hlow, hhigh]

theorem loByte_add_one (w : Word) : loByte (w + 1) = loByte w + 1 := by
  apply BitVec.eq_of_toNat_eq
  rw [loByte_toNat, BitVec.toNat_add, BitVec.toNat_add, loByte_toNat]
  simp

/-- Where the second pointer byte stands, as R201 writes it (the spec's decision D13). -/
theorem indirectTarget_eq_masks (ptr : Word) (s : State) :
    indirectTarget ptr s =
      wordOf (s.readByte ((ptr &&& 0xFF00) ||| ((ptr + 1) &&& 0x00FF))) (s.readByte ptr) := by
  rw [indirectTarget, masks_eq_wordOf, loByte_add_one]

/-- Below the top of its page the next address of the page is the next address of memory. -/
theorem wordOf_loByte_add_one {w : Word} (hw : w.toNat % 256 ≠ 255) :
    wordOf (hiByte w) (loByte w + 1) = w + 1 := by
  have hlt := w.isLt
  apply BitVec.eq_of_toNat_eq
  rw [wordOf_toNat, hiByte_toNat, BitVec.toNat_add, BitVec.toNat_add, loByte_toNat]
  simp
  omega

theorem indirectTarget_eq_readWord {ptr : Word} (hptr : ptr.toNat % 256 ≠ 255) (s : State) :
    indirectTarget ptr s = s.readWord ptr := by
  rw [indirectTarget, wordOf_loByte_add_one hptr, State.readWord]

/-- Settles O43: the target the model reads through the pointer is the word of the rule's masks, and the word at the
pointer except at the top of a page. -/
theorem jmpIndirectWrapsInPage : Obligations.JmpIndirectWrapsInPage := by
  intro ptr s
  have hjumps : Jumps (.jmpInd ptr) [0x6C, loByte ptr, hiByte ptr] (indirectTarget ptr s) s := jumps_of_exec rfl rfl
  exact ⟨indirectTarget_eq_masks ptr s ▸ hjumps, fun hptr => indirectTarget_eq_readWord hptr s ▸ hjumps⟩

/-! ### Branches -/

/-- `pc_next +16 sext_16(off)` is `pc_next` plus the signed offset, modulo 65 536 (R204). -/
theorem add_sext16_toNat (w : Word) (off : Byte) :
    ((w + sext16 off).toNat : Int) = (w.toNat + off.toInt) % 65536 := by
  have hsext : sext16 off = BitVec.ofInt 16 off.toInt := rfl
  rw [BitVec.toNat_add, hsext, BitVec.toNat_ofInt]
  omega

theorem add_two_toNat (w : Word) : ((w + 2).toNat : Int) = ((w.toNat : Int) + 2) % 65536 := by
  rw [BitVec.toNat_add]
  rfl

/-- An instruction of form Relative whose test `c` decides the condition `cond`. -/
theorem branches_of_exec {i : Instr} {bytes : List Byte} {s : State} {off : Byte} {c : Bool} {cond : Prop}
    (henc : encode i = bytes) (hexec : exec i s = branchForm c off s) (hc : c = true ↔ cond) :
    Branches i bytes cond off s := by
  refine ⟨henc, _, hexec, fun htaken => ?taken, fun hnot => ?notTaken, keeps_setPc (keeps_refl s) _, fun _ => rfl⟩
  case taken =>
    rw [State.setPc_pc, if_pos (hc.mpr htaken), add_sext16_toNat, add_two_toNat]
    omega
  case notTaken =>
    rw [State.setPc_pc, if_neg (hnot ∘ hc.mp), add_two_toNat]

/-- Settles O46: each branch is of form Relative, and tests its flag or the flag's complement. -/
theorem branchesFollowFlags : Obligations.BranchesFollowFlags := by
  intro b s
  refine ⟨?bcc, ?bcs, ?beq, ?bne, ?bmi, ?bpl, ?bvc, ?bvs⟩
  case bcc | bne | bpl | bvc => exact branches_of_exec rfl rfl (Bool.not_eq_true' _).to_iff
  case bcs | beq | bmi | bvs => exact branches_of_exec rfl rfl Iff.rfl

/-! ### JSR and RTS -/

section
variable (w : Word) (s : State)

theorem keeps_push16 : Keeps [.sp] [] s (push16 w s) :=
  have hhigh := keeps_push8 s (hiByte w)
  have hlow := keeps_push8 (push8 (hiByte w) s) (loByte w)
  ⟨fun r hr => (hlow.reg r hr).trans (hhigh.reg r hr), fun _ _ => rfl, rfl, rfl⟩

theorem readByte_push16_high : (push16 w s).readByte (stackAddr s.sp) = hiByte w := by
  rw [push16_readByte, if_neg (stackAddr_ne_sub_one s.sp), if_pos rfl]

theorem readByte_push16_low : (push16 w s).readByte (stackAddr (s.sp - 1)) = loByte w := by
  rw [push16_readByte, if_pos rfl]

theorem keepsMemBut_push16 : KeepsMemBut [stackAddr s.sp, stackAddr (s.sp - 1)] s (push16 w s) := by
  intro a ha
  obtain ⟨hhigh, hlow⟩ : a ≠ stackAddr s.sp ∧ a ≠ stackAddr (s.sp - 1) := by simpa using ha
  rw [push16_readByte, if_neg hlow, if_neg hhigh]

/-- The word RTS goes to, one past the pulled word (R203). -/
theorem pull16_add_one_toNat :
    ((pull16 s).1 + 1).toNat = ((s.readByte (stackAddr (s.sp + 1))).toNat +
      256 * (s.readByte (stackAddr (s.sp + 2))).toNat + 1) % 65536 := by
  have hsp : s.sp + 1 + 1 = s.sp + 2 := add_assoc s.sp 1 1
  rw [pull16_fst, hsp, BitVec.toNat_add, wordOf_toNat]
  simp
  omega

end

/-- Settles O44: JSR is a push of the word PC + 2 and RTS a pull, each followed by the transfer. -/
theorem jsrAndRtsUseStack : Obligations.JsrAndRtsUseStack := by
  intro w s
  constructor
  case left =>
    exact ⟨rfl, _, rfl, rfl, sub_sub s.sp 1 1, readByte_push16_high _ s, readByte_push16_low _ s,
      keeps_setPc (keeps_push16 _ s) w, keepsMemBut_push16 _ s⟩
  case right =>
    exact ⟨rfl, _, rfl, pull16_add_one_toNat s, add_assoc s.sp 1 1, keeps_setPc (keeps_setSp s _) _, fun _ => rfl⟩

/-- What RTS answers after JSR, as a pull right after the push: neither reads the PC that JSR set. -/
theorem exec_rts_after_push16 (v w : Word) (s : State) :
    exec .rts ((push16 v s).setPc w) =
      .next ((pull16 (push16 v s)).2.setPc ((pull16 (push16 v s)).1 + 1)) := rfl

/-- Settles O45: the word JSR pushed is the word RTS pulls, and it is one short of the next instruction. -/
theorem rtsAfterJsrReturns : Obligations.RtsAfterJsrReturns := by
  intro w s
  refine ⟨_, _, rfl, exec_rts_after_push16 (s.pc + 2) w s, ?pc, keeps_setPc (keeps_pull16_push16 s (s.pc + 2)) _⟩
  case pc => rw [State.setPc_pc, pull16_push16_fst, add_assoc]; rfl

end Sys2Proof.Proofs
end

section
/-! SUPPORT. Stack, flag and system instructions (45_stack_flags_system.md): what a pulled status byte leaves in P, one
rule each for `Pushes` and `SetsFlag`, and the pulls by PLA, PLP and RTI. -/

namespace Sys2Proof.Proofs

open Sys2Proof.Machine Sys2Proof.Claims

/-- The frames of two writes, the later one's first. -/
theorem keeps_trans {regs regs' : List Reg} {flags flags' : List Flag} {s t u : State}
    (hst : Keeps regs flags s t) (htu : Keeps regs' flags' t u) : Keeps (regs' ++ regs) (flags' ++ flags) s u where
  reg r hr := by
    obtain ⟨hr', hr⟩ := not_or.mp (mt List.mem_append.mpr hr)
    exact (htu.reg r hr').trans (hst.reg r hr)
  flag f hf := by
    obtain ⟨hf', hf⟩ := not_or.mp (mt List.mem_append.mpr hf)
    exact (htu.flag f hf').trans (hst.flag f hf)
  runState := htu.runState.trans hst.runState
  fault := htu.fault.trans hst.fault

/-! ### The rules -/

section
variable {i : Instr} {bytes : List Byte} {s : State}

/-- An instruction that pushes one byte and does nothing else. -/
theorem pushes_of_exec {v : Byte} (henc : encode i = bytes)
    (hexec : exec i s = .next ((push8 v s).setPc (s.pc + BitVec.ofNat 16 bytes.length))) :
    Pushes i bytes v s :=
  have ⟨_, hread, hmem, hkeeps, _⟩ := stackPrimitivesStayInStackPage v s
  runsOn_of_exec henc hexec ⟨hread, rfl, keeps_setPc hkeeps _, hmem⟩

/-- An instruction that writes one flag and does nothing else. -/
theorem setsFlag_of_exec {f : Flag} {b : Bool} (henc : encode i = bytes)
    (hexec : exec i s = .next ((s.setP (putFlag s.p f b)).setPc (s.pc + BitVec.ofNat 16 bytes.length))) :
    SetsFlag i bytes f b s := by
  refine runsOn_of_exec henc hexec ⟨?flag, keeps_setPc (keeps_setP (keeps_refl s) fun g hg => ?frame) _, fun _ => rfl⟩
  case flag => simp [State.flag_setP]
  case frame => simp [List.ne_of_not_mem_cons hg]

end

/-! ### Pushes -/

/-- Settles O47: each is the push of its byte, PHP's being P with both break flags set. -/
theorem phaPhpPush : Obligations.PhaPhpPush :=
  fun _ => ⟨pushes_of_exec rfl rfl, pushes_of_exec rfl rfl⟩

/-! ### Pulls -/

/-- The six flags a pulled status byte loads (R223). -/
def pulledFlags : List Flag := [.carry, .zero, .interruptDisable, .decimal, .overflow, .negative]

theorem break_or_break2_of_not_mem_pulledFlags {f : Flag} (hf : f ∉ pulledFlags) : f = .break ∨ f = .break2 := by
  revert hf
  cases f <;> decide

/-- `PullsFlags` speaks of P alone. -/
theorem pullsFlags_of_status {s t : State} {v : Byte} (hp : t.p = pulledStatus v s.p) : PullsFlags v s t := by
  have hflag (f : Flag) : t.flag f = if f = .break ∨ f = .break2 then s.flag f else testFlag v f := by
    rw [State.flag, hp, testFlag_pulledStatus]
    rfl
  exact ⟨hflag .carry, hflag .zero, hflag .interruptDisable, hflag .decimal, hflag .overflow, hflag .negative,
    hflag .break, hflag .break2⟩

/-- A pull of P writes SP and the six flags: the frame of PLP and of RTI. -/
theorem keeps_setSp_setP_pulledStatus (s : State) (sp v : Byte) :
    Keeps [.sp] pulledFlags s ((s.setSp sp).setP (pulledStatus v s.p)) :=
  keeps_setP (keeps_setSp s sp) fun f hf => by
    rw [testFlag_pulledStatus, if_pos (break_or_break2_of_not_mem_pulledFlags hf)]

/-- PLA is a load of A from the stack, after SP is raised (R222). -/
theorem handlePla_eq_loadReg (s : State) :
    handlePla s = loadReg .a (s.readByte (stackAddr (s.sp + 1))) (s.setSp (s.sp + 1)) := rfl

/-- Settles O48: PLA by the frame of a load after that of SP, PLP by the pulled status byte. -/
theorem plaPlpPull : Obligations.PlaPlpPull := by
  intro s
  constructor
  case left =>
    have hkeeps : Keeps [.a, .sp] [.zero, .negative] s (handlePla s) := by
      rw [handlePla_eq_loadReg]
      exact keeps_trans (keeps_setSp s (s.sp + 1)) (keeps_loadReg .a _ _)
    exact runsOn_of_exec rfl rfl ⟨rfl, zn_of_status rfl, rfl, keeps_setPc hkeeps _, fun _ => rfl⟩
  case right =>
    exact runsOn_of_exec rfl rfl ⟨pullsFlags_of_status rfl, rfl,
      keeps_setPc (keeps_setSp_setP_pulledStatus s _ _) _, fun _ => rfl⟩

/-! ### PHP and PLP together -/

section
variable (s : State) (v : Byte)

/-- The byte pushed is the byte pulled, at SP 0x00 too (40_engine_and_resolver.md R127, R128). -/
theorem pull8_push8_fst : (pull8 (push8 v s)).1 = v := by
  have hsp : s.sp - 1 + 1 = s.sp := by simp
  rw [pull8_fst, push8_sp, hsp, push8_readByte, if_pos rfl]

theorem keeps_pull8_push8 : Keeps [] [] s (pull8 (push8 v s)).2 where
  reg r _ := by cases r <;> simp
  flag _ _ := rfl
  runState := rfl
  fault := rfl

/-- The break flags of the pulled byte are ignored, and the other six are those that were pushed (decision D12). -/
theorem pulledStatus_pushedStatus (p : Byte) : pulledStatus (pushedStatus p) p = p := by
  apply status_eq_of_flags
  intro f
  rw [testFlag_pulledStatus, testFlag_pushedStatus]
  split <;> rfl

theorem pullStatus_push8_p : (pullStatus (push8 (pushedStatus s.p) s)).p = s.p := by
  have hp : (pullStatus (push8 (pushedStatus s.p) s)).p =
    pulledStatus (pull8 (push8 (pushedStatus s.p) s)).1 s.p := rfl
  rw [hp, pull8_push8_fst, pulledStatus_pushedStatus]

theorem keeps_pullStatus_push8 : Keeps [] [] s (pullStatus (push8 (pushedStatus s.p) s)) :=
  keeps_setP (keeps_pull8_push8 s _) fun f _ => congrArg (testFlag · f) (pullStatus_push8_p s)

/-- What PLP answers after a push: it does not read the PC that the push's instruction set. -/
theorem exec_plp_after_push8 (pc : Word) :
    exec .plp ((push8 v s).setPc pc) = .next ((pullStatus (push8 v s)).setPc (pc + 1)) := rfl

end

/-- Settles O49: the status byte PHP pushed is the one PLP pulls. -/
theorem plpAfterPhpRestoresStatus : Obligations.PlpAfterPhpRestoresStatus :=
  fun s => ⟨_, _, rfl, exec_plp_after_push8 s (pushedStatus s.p) (s.pc + 1), pullStatus_push8_p s,
    keeps_setPc (keeps_pullStatus_push8 s) _⟩

/-! ### RTI -/

/-- The word RTI goes to stands above the status byte, low byte first (R233). -/
theorem pull16_pullStatus_toNat (s : State) :
    (pull16 (pullStatus s)).1.toNat = (s.readByte (stackAddr (s.sp + 2))).toNat +
      256 * (s.readByte (stackAddr (s.sp + 3))).toNat := by
  have hword : (pull16 (pullStatus s)).1 =
    wordOf (s.readByte (stackAddr (s.sp + 1 + 1 + 1))) (s.readByte (stackAddr (s.sp + 1 + 1))) := rfl
  have hlow : s.sp + 1 + 1 = s.sp + 2 := add_assoc s.sp 1 1
  have hhigh : s.sp + 2 + 1 = s.sp + 3 := add_assoc s.sp 2 1
  rw [hword, hlow, hhigh, wordOf_toNat]
  omega

theorem pull16_pullStatus_sp (s : State) : (pull16 (pullStatus s)).2.sp = s.sp + 3 := by
  have hsp : (pull16 (pullStatus s)).2.sp = s.sp + 1 + 1 + 1 := rfl
  rw [hsp, add_assoc, add_assoc]
  rfl

/-- Settles O53: RTI is PLP's pull of P and then a pull of the word it goes to. -/
theorem rtiPullsStatusAndPc : Obligations.RtiPullsStatusAndPc :=
  fun s => ⟨rfl, _, rfl, pullsFlags_of_status rfl, pull16_pullStatus_toNat s, pull16_pullStatus_sp s,
    keeps_setPc (keeps_setSp_setP_pulledStatus s _ _) _, fun _ => rfl⟩

/-! ### Flags, NOP and BRK -/

/-- Settles O50: each is a write of its one flag. -/
theorem flagInstructionsWriteOneFlag : Obligations.FlagInstructionsWriteOneFlag := by
  intro s
  refine ⟨?clc, ?sec, ?cli, ?sei, ?cld, ?sed, ?clv⟩
  all_goals exact setsFlag_of_exec rfl rfl

/-- Settles O51: NOP's handler is the identity, and PC is no part of the frame. -/
theorem nopAdvancesPcOnly : Obligations.NopAdvancesPcOnly :=
  fun s => runsOn_of_exec rfl rfl ⟨keeps_setPc (keeps_refl s) _, fun _ => rfl⟩

/-- Settles O52, by the state BRK answers (decision D9). -/
theorem brkHalts : Obligations.BrkHalts :=
  fun _ => ⟨rfl, rfl⟩

end Sys2Proof.Proofs
end

section
/-! SUPPORT. The errors of a step (60_exceptions.md R250, R252, R254): every form of a meaning answers a next state, and
the one error a step can record is `UnknownOpcode`. -/

namespace Sys2Proof.Proofs

open Sys2Proof.Machine

/-! ### Every meaning answers a next state -/

section
variable {mn : Mnemonic} {tag : AddressMode}

/-- With a tag that resolves, the resolver raises nothing. -/
theorem withEa_answersNext (ht : tag ≠ .noAddress) (opnd : Operand) (h : Word → State → State) (s : State) :
    ∃ t, withEa tag opnd h s = .next t := by
  obtain ⟨_, -, hnext⟩ := withEa_next s opnd ht h
  exact ⟨_, hnext⟩

/-- The forms with an effective address name a tag that resolves; the others ask nothing of the resolver. -/
theorem ExecForm.answersNext {run : State → Result} (hform : ExecForm mn run) (s : State) :
    ∃ t, run s = .next t := by
  cases hform with
  | read _ heq ht | write _ heq ht | modify _ heq ht => exact heq s ▸ withEa_answersNext ht _ _ s
  | implied _ heq | transfer _ heq => exact ⟨_, heq s⟩

end

/-! ### The error a step can record -/

theorem resolve_eq_unsupportedAddressingMode_iff (tag : AddressMode) (pcOp : Word) (opnd : Operand) (s : State) :
    resolve tag pcOp opnd s = .error .unsupportedAddressingMode ↔ tag = .noAddress := by
  constructor
  · intro herr
    by_contra htag
    obtain ⟨ea, hok⟩ := resolve_ok s opnd htag pcOp
    cases hok.symm.trans herr
  · rintro rfl
    exact resolve_noAddress s opnd pcOp

/-- A step leaves the recorded error as it was, or records `UnknownOpcode` of the byte at PC. -/
theorem engineStep_fault {cfg : Config} {s t : State} (hstep : engineStep cfg s = .next t) :
    t.fault = s.fault ∨ t.fault = some (.unknownOpcode (s.readByte s.pc)) := by
  obtain ⟨-, hnext⟩ | ⟨-, i, -, hexec⟩ | ⟨-, -, hraise⟩ := engineStep_cases cfg s
  · obtain rfl := Host.Outcome.next.inj (hnext.symm.trans hstep)
    exact .inl rfl
  · exact .inl (exec_storesWithin (hexec.symm.trans hstep)).fault
  · obtain rfl := Host.Outcome.next.inj (hraise.symm.trans hstep)
    exact .inr rfl

/-! ### The obligations -/

/-- Settles O9: a step does nothing, runs one meaning or records one error, and each answers a next state. -/
theorem everyStepAnswersNext : Obligations.EveryStepAnswersNext := by
  intro cfg s
  obtain ⟨-, hnext⟩ | ⟨-, i, -, hexec⟩ | ⟨-, -, hraise⟩ := engineStep_cases cfg s
  · exact ⟨_, hnext⟩
  · exact hexec ▸ (exec_form i).answersNext s
  · exact ⟨_, hraise⟩

/-- Settles O11: the resolver answers an address for every other tag, and no step records its error. -/
theorem unsupportedAddressingModeUnreachable : Obligations.UnsupportedAddressingModeUnreachable := by
  refine ⟨resolve_eq_unsupportedAddressingMode_iff, fun cfg s t hstep hfault => ?_⟩
  obtain hkept | hraised := engineStep_fault hstep
  · exact hkept.symm.trans hfault
  · cases hraised.symm.trans hfault

end Sys2Proof.Proofs
end

section
/-! SUPPORT. The host operations `step`, `reset` and `load` (70_reset_and_hazards.md R281 to R283, R286): what a byte
string written at consecutive addresses leaves in memory, and from it what `load` leaves. -/

namespace Sys2Proof.Proofs

open Sys2Proof.Machine

/-! ### A byte string at consecutive addresses -/

/-- The next byte's place counted from the start of the string and from its second byte. -/
theorem add_ofNat_succ (a : Word) (k : Nat) : a + BitVec.ofNat 16 (k + 1) = a + 1 + BitVec.ofNat 16 k := by
  rw [Nat.add_comm, BitVec.ofNat_add]
  exact (BitVec.add_assoc a 1 _).symm

section
variable {bs : List Byte} (s : State)

/-- A cell at no written address is kept. -/
theorem readByte_writeBytes_ne {a b : Word} (hb : ∀ k < bs.length, b ≠ a + BitVec.ofNat 16 k) :
    (s.writeBytes a bs).readByte b = s.readByte b := by
  induction bs generalizing s a with
  | nil => rfl
  | cons v rest ih =>
    have hhead : b ≠ a := by simpa using hb 0 (Nat.succ_pos _)
    have htail : ∀ k < rest.length, b ≠ a + 1 + BitVec.ofNat 16 k := fun k hk =>
      add_ofNat_succ a k ▸ hb (k + 1) (Nat.succ_lt_succ hk)
    rw [State.writeBytes, ih _ htail, s.readByte_writeByte_ne hhead]

/-- A string no longer than the address space stands where it was written: no later byte wraps round onto an
earlier one. -/
theorem readByte_writeBytes (a : Word) (hlen : bs.length ≤ 65536) {k : Nat} (hk : k < bs.length) :
    (s.writeBytes a bs).readByte (a + BitVec.ofNat 16 k) = bs[k] := by
  induction bs generalizing s a k with
  | nil => cases hk
  | cons v rest ih =>
    rw [List.length_cons] at hlen hk
    rw [State.writeBytes]
    cases k with
    | zero =>
      have hlater : ∀ j < rest.length, a ≠ a + 1 + BitVec.ofNat 16 j := fun j hj => by bv_omega
      rw [BitVec.add_zero, readByte_writeBytes_ne _ hlater, s.readByte_writeByte_self, List.getElem_cons_zero]
    | succ j =>
      rw [add_ofNat_succ]
      exact ih _ _ (Nat.le_of_succ_le hlen) (Nat.lt_of_succ_lt_succ hk)

end

/-! ### `load` -/

section
variable {program : List Byte} {s t : State}

/-- `load` answers a state exactly for a program that fits: the image, and the vector over it (R281, R282). -/
theorem hostLoad_eq_ok_iff :
    hostLoad program s = .ok t ↔
      program.length ≤ 0x8000 ∧ (s.writeBytes loadBase program).writeWord resetVector loadBase = t := by
  by_cases hfits : program.length ≤ 0x8000 <;> simp [hostLoad, imageFits, hfits]

/-- A program that does not fit writes nothing (R282). -/
theorem hostLoad_of_too_large (hlarge : 0x8000 < program.length) :
    hostLoad program s = .error .programTooLarge := by
  simp [hostLoad, imageFits, hlarge]

/-- Every cell but the vector's two holds what the copy of the image leaves there. -/
theorem hostLoad_readByte (hload : hostLoad program s = .ok t) {a : Word} (hlow : a ≠ 0xFFFC) (hhigh : a ≠ 0xFFFD) :
    t.readByte a = (s.writeBytes loadBase program).readByte a := by
  obtain ⟨-, rfl⟩ := hostLoad_eq_ok_iff.mp hload
  exact keepsMemBut_writeWord _ _ _ a (by simpa using ⟨hlow, hhigh⟩)

/-- Byte k of the image stands at `0x8000 + k`, except where the vector stands (R281). -/
theorem hostLoad_image (hload : hostLoad program s = .ok t) {k : Nat} (hk : k < program.length)
    (hlow : k ≠ 0x7FFC) (hhigh : k ≠ 0x7FFD) : t.readByte (BitVec.ofNat 16 (0x8000 + k)) = program[k] := by
  obtain ⟨hfits, -⟩ := hostLoad_eq_ok_iff.mp hload
  rw [hostLoad_readByte hload (by bv_omega) (by bv_omega), BitVec.ofNat_add]
  exact readByte_writeBytes s loadBase (hfits.trans (by decide)) hk

/-- A cell outside the image and the vector is kept. -/
theorem hostLoad_outside (hload : hostLoad program s = .ok t) {a : Word} (hlow : a ≠ 0xFFFC) (hhigh : a ≠ 0xFFFD)
    (ha : a.toNat < 0x8000 ∨ 0x8000 + program.length ≤ a.toNat) : t.readByte a = s.readByte a := by
  obtain ⟨hfits, -⟩ := hostLoad_eq_ok_iff.mp hload
  rw [hostLoad_readByte hload hlow hhigh]
  refine readByte_writeBytes_ne s fun k hk => ?_
  rw [loadBase]
  bv_omega

/-- The vector holds `LOAD_BASE`, whatever the image put there (R281). -/
theorem hostLoad_readWord_resetVector (hload : hostLoad program s = .ok t) : t.readWord resetVector = loadBase := by
  obtain ⟨-, rfl⟩ := hostLoad_eq_ok_iff.mp hload
  exact readWord_writeWord _ _ _

/-- The vector's two bytes. -/
theorem hostLoad_vector (hload : hostLoad program s = .ok t) :
    t.readByte 0xFFFC = 0x00 ∧ t.readByte 0xFFFD = 0x80 := by
  obtain ⟨-, rfl⟩ := hostLoad_eq_ok_iff.mp hload
  exact ⟨readByte_writeWord_low _ resetVector loadBase, readByte_writeWord_high _ resetVector loadBase⟩

/-- `load` writes memory only. -/
theorem hostLoad_frame (hload : hostLoad program s = .ok t) : { t with mem := s.mem } = s := by
  obtain ⟨-, rfl⟩ := hostLoad_eq_ok_iff.mp hload
  rw [State.writeBytes_eq_setMem]
  rfl

end

/-! ### The obligations -/

/-- Settles O8: the host's `step` is the engine's, and a halted engine has no step. -/
theorem haltedStepChangesNothing : Obligations.HaltedStepChangesNothing :=
  fun cfg _ hhalt => engineStep_halted cfg hhalt

/-- Settles O15: `reset` writes every field out but memory, which it hands on; PC is the word at the vector. -/
theorem hostResetKeepsMemory : Obligations.HostResetKeepsMemory :=
  fun _ s => ⟨rfl, rfl, rfl, rfl, rfl, readWord_toNat s resetVector, rfl, rfl, fun _ => rfl⟩

/-- Settles O16: the vector is written over the image, and the image wraps onto no cell below it. -/
theorem loadCopiesImageAndVector : Obligations.LoadCopiesImageAndVector := by
  refine fun program s => ⟨fun hfits => ?_, hostLoad_of_too_large⟩
  obtain ⟨t, hload⟩ : ∃ t, hostLoad program s = .ok t := ⟨_, hostLoad_eq_ok_iff.mpr ⟨hfits, rfl⟩⟩
  obtain ⟨hlow, hhigh⟩ := hostLoad_vector hload
  exact ⟨t, hload, fun _ => hostLoad_image hload, hlow, hhigh, fun _ => hostLoad_outside hload,
    hostLoad_frame hload⟩

/-- Settles O17: `reset` reads the word `load` wrote at the vector. -/
theorem loadThenResetStartsAtLoadBase : Obligations.LoadThenResetStartsAtLoadBase :=
  fun _ _ _ _ hload => hostLoad_readWord_resetVector hload

end Sys2Proof.Proofs
end
